-- ==== Sys2Proof/Word.lean ====
section
/-! DEFINITION. The words of the part: bytes, 16-bit words, title keys, and line positions. -/

namespace Sys2Proof

/-- One byte on the line bus, the reader line or the station port. -/
abbrev Byte := BitVec 8

/-- A 16-bit quantity: tags, parameter values, counts, the digest, the stamp. -/
abbrev W16 := BitVec 16

/-- A title key, 24 bits (R1). -/
abbrev Key := BitVec 24

/-- A line position as it travels: position minus 1, 0 to 15 for positions 1 to 16 (chapter 12). -/
abbrev Pos := Fin 16

/-- An index into the format table (R10). -/
abbrev FormatIx := Fin 16

/-- The position as the manual counts it, 1 to 16. -/
def posNumber (p : Pos) : Nat := p.val + 1

end Sys2Proof
end

