-- ==== Sys2Proof/Config.lean ====
section
/-! DEFINITION. What an implementation fixes (the capacities the manual states) and the free values,
which the manual leaves open: constants without a body, so that no proof can see what they are. -/

namespace Sys2Proof.Config

/-- Capacity of the zone list (R57). -/
def zoneCap : Nat := 8
/-- Capacity of the incoming list (R57). -/
def incomingCap : Nat := 4
/-- Capacity of the transmit queue (R28). -/
def txqCap : Nat := 16
/-- Capacity of the magazine list (R105). -/
def magazineCap : Nat := 24
/-- Capacity of the void list (R111). -/
def voidCap : Nat := 16
/-- Capacity of the journal (R190). -/
def journalCap : Nat := 32
/-- Marks stored in one record (R5). -/
def markCap : Nat := 4
/-- Failures of one notice that halt the station (R25). -/
def failureLimit : Nat := 8
/-- The quiet gap, in bit times (R20). -/
def quietGap : Nat := 11

/-- FREE VALUE (log entry 4): which of several expiries due at one moment is taken first. The manual
says that either may be taken first. Applied to the counter `State.freeCount`. -/
opaque pick : Nat → Nat

/-- FREE VALUE (log entry 7): the level of an input pin (second argument: 0 entry eye, 1 work eye,
2 exit eye, 3 fourth eye, 4 guard, 5 cycle-done) found when the model's own clock ends the join
window. Applied to the counter `State.freeCount`. -/
opaque pinLevel : Nat → Nat → Bool

end Sys2Proof.Config
end

