-- ==== Sys2Proof/Syntax.lean ====
section
/-! DEFINITION. The commands: one constructor of `Instr` for each row of spec/opcode_table.json, with
the row's operands, and the types of those operands. -/

namespace Sys2Proof

/-- The eight strap pins as sampled at a reset (R34): the role code, the position strap value
(position minus 1) and END. -/
structure Straps where
  role : BitVec 3
  position : Pos
  isEnd : Bool
  deriving DecidableEq, Repr

/-- The levels of the input pins, `true` for on (R54, R99, R117). -/
structure InputPins where
  entry : Bool
  work : Bool
  exit : Bool
  fourth : Bool
  guard : Bool
  done : Bool
  deriving DecidableEq, Repr

/-- One byte on the reader line with its stop bit; `stopHigh = false` is a low stop bit (R11). -/
structure ReaderByte where
  data : Byte
  stopHigh : Bool
  deriving DecidableEq, Repr

/-- A format table entry as its 8-byte image gives it (R10, 12.2); it is valid when the valid byte
is 1. -/
structure FormatEntry where
  valid : Byte
  nominal : W16
  tolerance : Byte
  heat : W16
  setTime : W16
  deriving DecidableEq, Repr

/-- The 24 bytes of a record image (12.1). -/
abbrev RecordImage := Vector Byte 24

/-- The lowest arbitration field among the other stations that begin a frame in the same bit time
(R21): its class and its sender position. -/
structure Rival where
  cls : BitVec 2
  sender : Pos
  deriving DecidableEq, Repr

/-- What breaks a frame in the inserted region at a receiver (R23): a structure error, or a payload
length above 32 in a frame of the sender named. -/
inductive BreakCause where
  | insertion
  | length (sender : Pos)
  deriving DecidableEq, Repr

/-- Why the flag slot of a frame reads dominant (R23, R24): this station found a check fault or an
unknown kind in a frame of the sender named, or the flag was driven by another station. -/
inductive FlagCause where
  | check (sender : Pos)
  | kind (sender : Pos)
  | byOther
  deriving DecidableEq, Repr

/-- The edge of an input that an edge command brings (R54, R55, R117, R176; log entry 6): the one its row
names, on which the part acts, or the opposite edge of the same input, which has no row of its own and
only updates the filtered level. -/
inductive InputEdge where
  | named
  | opposite
  deriving DecidableEq, Repr

/-- A record's place in the zone list or the incoming list, 0 the oldest. -/
inductive RecordPlace where
  | zone (index : Nat)
  | incoming (index : Nat)
  deriving DecidableEq, Repr

/-- The commands. A read command of the port clocks `bits` data bits, and `released` says whether select is
then released; given again while its transaction is open, it goes on with it (R179; log entry 2).
`recessive` of FRAME_START is the number of recessive bit times read since the last bus event (R20).
An operand with a value of its own may be left out, and the row is then taken as the table has it: the
transaction whole, the quiet gap passed, the edge the one that is named.
`sender` of a notice is its sender position; the other operands of a notice are its payload (12.1), read
as R193 says. -/
inductive Instr where
  | powerOn (straps : Straps)
  | resetPin (straps : Straps)
  | status (bits : Nat) (released : Bool := true)
  | watch (selector : Byte) (released : Bool := true)
  | readLatches (bits : Nat) (released : Bool := true)
  | writeEnables (latches : BitVec 24) (groupMaster : Byte)
  | readJournal (bits : Nat) (released : Bool := true)
  | readRecord (list index : Byte) (bits : Nat) (released : Bool := true)
  | readMagazine (index : Byte) (bits : Nat) (released : Bool := true)
  | writeParameter (id : Byte) (value : W16)
  | writeFormat (index : Byte) (entry : FormatEntry)
  | join
  | mark (kind : Byte)
  | purge (tag : W16)
  | magazineClear
  | stop
  | go
  | drain
  | reset (straps : Straps)
  | transactionFrame (bytes : List Byte) (extraBits : Nat)
  | frameStart (rival : Option Rival) (recessive : Nat := 11)
  | readbackMismatch
  | structureError (cause : BreakCause)
  | flaggedFrame (cause : FlagCause)
  | stopNotice (sender : Pos) (reasons : Byte)
  | goNotice (sender : Pos)
  | absent (sender : Pos) (position : Byte)
  | claim (sender : Pos) (cls : Byte)
  | release (sender : Pos)
  | withdraw (sender : Pos)
  | handover (sender : Pos) (target : Byte) (image : RecordImage)
  | room (sender : Pos) (standing : Byte)
  | void (sender : Pos) (key : Key) (format lacks : Byte)
  | joinNotice (sender : Pos) (role : Byte) (digest : W16)
  | beacon (sender : Pos) (payload : List Byte)
  | silenceTimerExpiry (member : Pos)
  | joinWindowEnd (pins : InputPins)
  | beaconTimerExpiry
  | idFrame (bytes : List ReaderByte)
  | readerGapTimeout
  | readWindowExpiry
  | encoderCount
  | entryLeadingEdge
  | entryTrailingEdge
  | adoptionDistanceExpiry
  | transitDistanceExpiry
  | workLeadingEdge (edge : InputEdge := .named)
  | exitTrailingEdge (edge : InputEdge := .named)
  | feedEyeLeadingEdge (edge : InputEdge := .named)
  | cycleDone (edge : InputEdge := .named)
  | cycleTimeout
  | skipTimeout
  | openTimeExpiry (place : RecordPlace)
  | holdOffExpiry
  | claimWaitLimit
  | keepwarmDue
  | warmTimerExpiry
  | burstEnd
  | heatPhaseEnd
  | setEnd
  | maxSuspendExpiry
  | guardOpens
  | guardCloses
  | confirmEyeLeadingEdge (edge : InputEdge := .named)
  | confirmDistanceExpiry
  deriving DecidableEq, Repr

end Sys2Proof
end

