-- ==== Sys2Proof/Decode.lean ====
section
/-! DEFINITION. The commands that words of the opcode table spell. No row of spec/opcode_table.json gives
bits ("fixed" or "fields"), so no word spells a command (log entry 31). -/

namespace Sys2Proof

/-- The command that the low `nbits` bits of `w`, numbered as the opcode table numbers them, spell:
none, since no row of the table gives bits. -/
def decodeTableWord (_nbits _w : Nat) : Option Instr := none

end Sys2Proof
end

