-- ==== Sys2Proof/Machine/State.lean ====
section
/-! DEFINITION. The state of the part, one sub-structure for each block of the manual's block overview,
the queue of commands that wait, and the state after reset. Plain data throughout. -/

namespace Sys2Proof.Machine

/-! ### Names -/

/-- The five roles (R34). -/
inductive Role where
  | infeed | case | press | jacket | gate
  deriving DecidableEq, Repr

/-- The station states (chapter 3). -/
inductive StationState where
  | config | joining | running | halted
  deriving DecidableEq, Repr

/-- The kinds of reset (R53). -/
inductive ResetCause where
  | powerOn | pin | command
  deriving DecidableEq, Repr

/-- Why a station halted (R46). -/
inductive HaltReason where
  | none | busFault | txqFull | digestClash | positionClash | absentSelf
  deriving DecidableEq, Repr

/-- A member's status (R47). -/
inductive MemberStatus where
  | unknown | joining | running | absent
  deriving DecidableEq, Repr

/-- The mark kinds in the order of the table of R4. -/
inductive MarkKind where
  | unknown | noId | badFormat | length | noCase | cycleFault | openTime | heatStarved
  | dwellBroken | underpressed | noJacket | incomplete | machine | divertFail
  deriving DecidableEq, Repr

/-- A record's verdict (R5). -/
inductive Verdict where
  | good | reject
  deriving DecidableEq, Repr

/-- A record's place at the station, in the zone list (R9). -/
inductive Phase where
  | entering | atWork | worked
  deriving DecidableEq, Repr

/-- The class of a claim (R127). -/
inductive ClaimClass where
  | keepwarm | book
  deriving DecidableEq, Repr

/-- The own claim state (R133). -/
inductive ClaimState where
  | none | queued | waiting | holding | returning
  deriving DecidableEq, Repr

/-- The use of the own claim (R133). -/
inductive ClaimUse where
  | none | keepwarm | book
  deriving DecidableEq, Repr

/-- The work states of a CASE or JACKET station; `cycling` is CASING at CASE and JACKETING at JACKET
(R113, chapter 10). -/
inductive PartsWork where
  | idle | waiting | skipping | cycling
  deriving DecidableEq, Repr

/-- The press states (chapter 9). -/
inductive PressState where
  | idle | waitShare | heat | set | suspended
  deriving DecidableEq, Repr

/-- The kinds of cycle: a skip, or the marrying cycle (casing at CASE, jacketing at JACKET). -/
inductive CycleKind where
  | skip | marry
  deriving DecidableEq, Repr

/-- The results of port commands (R180). -/
inductive PortResult where
  | accepted | refusedState | refusedRange | refusedBusy | frame
  deriving DecidableEq, Repr

/-- The conditions WATCH can drive onto the data output (R183). -/
inductive WatchSelector where
  | workBusy | lineRunning | shareHeld
  deriving DecidableEq, Repr

/-- The seventeen event latches in the order of the table of R187. -/
inductive Latch where
  | arrivalUnknown | recordMissing | recordDropped | lengthFault | divertFail
  | magLow | magHigh | magOverrun | matchFail
  | openTime | dwellBroken | claimStarved | tableDiverge
  | lineStopped | lineRunning | memberChange | journalWrap
  deriving DecidableEq, Repr

/-- The eleven kinds of notice (R33). -/
inductive NoticeKind where
  | stop | go | absent | claim | release | withdraw | handover | room | void | join | beacon
  deriving DecidableEq, Repr

/-- The journal entry kinds, in the order in which chapter 12 numbers them from 1. -/
inductive JournalKind where
  | readError | idOverrun | idDiscarded
  | badFrame | sendFailed | txqFull
  | joinTaken | running | halted | memberJoined | memberRejoined | memberAbsent | ownStop
  | lineStopped | lineRunning
  | zoneOverrun | arrivalUnknown | adopted | duplicate | incomingOverrun | missing | length
  | eyeOrder | noPeer | undelivered | retired | purged | openTime
  | blankEntry | magOverrun | voidOverflow | skipped | matchFail | cycleTimeout | skipTimeout
  | lateDone | magCleared | noCase | underpressed
  | protocol | claimStarved | grantUnwanted | keepwarmLapsed | tableDiverge | grantReturned
  | pressed | heatPartial | heatSuspended | heatResumed | dwellBroken
  | incomplete | diverted | divertFail | strayDivert
  | machineMark
  deriving DecidableEq, Repr

/-! ### Records and entries -/

/-- The binding of a record to one part (R3). -/
structure Marriage where
  position : Pos
  arrival : Byte
  deriving DecidableEq, Repr

/-- A fault noted on a record (R4). -/
structure Mark where
  kind : MarkKind
  position : Pos
  deriving DecidableEq, Repr

/-- The book record (R1). Durations are in ds and lengths in mm. -/
structure BookRecord where
  tag : W16
  key : Option Key
  copy : Option W16
  format : Option FormatIx
  caseMarriage : Option Marriage
  openTime : Option Nat
  heatDone : Nat
  pressed : Bool
  jacketMarriage : Option Marriage
  length : Option Nat
  verdict : Verdict
  marks : List Mark
  deriving DecidableEq, Repr

/-- A record in the zone list with its station-held state (R9): the adoption distance left in encoder
counts while it is provisional and adoptable, whether its length count runs, its divert-failed
standing (R73), and the milliseconds run of the open-time step in progress (R89). -/
structure ZoneRecord where
  book : BookRecord
  phase : Phase
  adoption : Option Nat
  counting : Bool
  divertFailed : Bool
  step : Nat
  deriving DecidableEq, Repr

/-- A record in the incoming list with its transit distance left in encoder counts (R58). -/
structure IncomingRecord where
  book : BookRecord
  transit : Nat
  step : Nat
  deriving DecidableEq, Repr

/-- A set of own stop reasons (R96); the empty set is no entry in a stop set (R94). -/
structure Reasons where
  guard : Bool
  command : Bool
  cycleFault : Bool
  divertFail : Bool
  magOverrun : Bool
  deriving DecidableEq, Repr

/-- A member table entry (R47). -/
structure Member where
  status : MemberStatus
  role : Option Role
  foreign : Bool
  deriving DecidableEq, Repr

/-- A wait list entry (R127). -/
structure WaitEntry where
  position : Pos
  cls : ClaimClass
  deriving DecidableEq, Repr

/-- A part entry of the magazine list (R105); `waiting` while it waits for its ID (R108). -/
structure PartEntry where
  arrival : Byte
  key : Option Key
  format : Option FormatIx
  waiting : Bool
  deriving DecidableEq, Repr

/-- An entry of the void list (R111). -/
structure VoidEntry where
  key : Key
  format : Option FormatIx
  deriving DecidableEq, Repr

/-- One identity as read (R11). -/
structure PartId where
  key : Key
  copy : W16
  format : Byte
  deriving DecidableEq, Repr

/-- A queued notice (R33). A HANDOVER keeps its record and the milliseconds run of the record's
open-time step, which runs on in the queue (R81), with 100 of the last step where the expiry has come and is
not yet taken (R91); a BEACON's contents are taken as its frame begins. -/
inductive Notice where
  | stop (reasons : Reasons)
  | go
  | absent (position : Pos)
  | claim (cls : ClaimClass)
  | release
  | withdraw
  | handover (target : Pos) (book : BookRecord) (step : Nat)
  | room (isOpen : Bool)
  | void (key : Key) (format : Option FormatIx) (lacksCase lacksJacket : Bool)
  | join (role : BitVec 3) (digest : W16)
  | beacon
  deriving DecidableEq, Repr

/-- A notice in the transmit queue with its failure count (R25). -/
structure TxEntry where
  notice : Notice
  failures : Nat
  deriving DecidableEq, Repr

/-- The frame in progress at this station: none, one it receives, one it has begun and loses to a rival of a
lower arbitration field (R21: a sender up to its losing bit and a receiver from there, log entry 55), or
the one it sends. A frame it has begun has the place of its notice in the transmit queue and its kind; the
payload is fixed as the start bit began. -/
inductive Frame where
  | none
  | receiving
  | losing (place : Nat) (kind : NoticeKind) (rival : Rival)
  | sending (place : Nat) (kind : NoticeKind) (payload : List Byte)
  deriving DecidableEq, Repr

/-- What the controller drives on the bus beside a frame of its own: nothing, the abort run of six dominant
bit times that follows a fault or a readback mismatch (R22, R23), or the dominant flag slot of a frame it
objects to (R23). -/
inductive Drive where
  | none
  | abortRun
  | flag
  deriving DecidableEq, Repr

/-- A read command of the port with its arguments (R181). -/
inductive PortRead where
  | status
  | latches
  | journal
  | record (list index : Byte)
  | magazine (index : Byte)
  deriving DecidableEq, Repr

/-- A read transaction in progress (R179): its command and arguments, the image being shifted out (for READ
JOURNAL the copy of the entry being shifted out, R191), the data bits clocked so far, the result that its
release writes if it is refused, the latch snapshot (R189), and whether the head of the journal is still
the entry copied (R191). -/
structure Reading where
  command : PortRead
  image : List Byte
  bits : Nat
  refusal : Option PortResult
  snapshot : Vector Bool 17
  copied : Bool
  deriving DecidableEq, Repr

/-- A cycle of the casing or jacketing machine in progress: `owned` while it belongs to the record at
work, the arrival number of the entry it took, and the cycle timer's milliseconds left. -/
structure Cycle where
  kind : CycleKind
  owned : Bool
  arrival : Byte
  left : Nat
  deriving DecidableEq, Repr

/-- What the press work keeps for the book at work (R150, R160, R161); `returned` while a grant
returned for an open guard is to be asked for again (R151). -/
structure PressBook where
  allowance : Nat
  credited : Nat
  resumed : Bool
  suspendReached : Bool
  returned : Bool
  deriving DecidableEq, Repr

/-- The heat phase in progress: its preheat portion and book portion in ds, and the milliseconds it
has run (R151). -/
structure HeatPhase where
  preheat : Nat
  book : Nat
  elapsed : Nat
  deriving DecidableEq, Repr

/-- The detail of a journal entry (R190 and chapter 12). -/
inductive Detail where
  | none
  | value (v : Nat)
  | pair (first second : Nat)
  | skip (arrival : Byte) (key : Option Key) (consumed : Bool)
  deriving DecidableEq, Repr

/-- A journal entry (R190). -/
structure JournalEntry where
  kind : JournalKind
  tag : W16
  detail : Detail
  stamp : W16
  deriving DecidableEq, Repr

/-! ### The blocks -/

/-- Parameter Store (R34 to R40, R10). -/
structure ParamStore where
  straps : Straps
  line : Vector W16 8
  station : Vector W16 20
  formats : Vector FormatEntry 16
  digest : W16
  offending : Byte
  deriving DecidableEq, Repr

/-- Line Bus Controller (chapter 2). `quiet` is the count of recessive bit times, up to the quiet gap,
which moves with the bit times that FRAME_START brings (log entry 8). -/
structure LineBus where
  attached : Bool
  txq : List TxEntry
  frame : Frame
  drive : Drive
  quiet : Nat
  deriving DecidableEq, Repr

/-- Membership Unit (chapters 3 and 6). Timers hold the milliseconds left. -/
structure Membership where
  station : StationState
  resetCause : ResetCause
  haltReason : HaltReason
  members : Vector Member 16
  silence : Vector (Option Nat) 16
  joinWindow : Option Nat
  stopAdopted : Bool
  shareAdopted : Bool
  beaconTimer : Option Nat
  stopSet : Vector Reasons 16
  ownStop : Reasons
  guardOpen : Bool
  deriving DecidableEq, Repr

/-- The filtered levels of the four eyes, `true` for blocked (R54). -/
structure Eyes where
  entry : Bool
  work : Bool
  exit : Bool
  fourth : Bool
  deriving DecidableEq, Repr

/-- Zone Tracker (chapters 4 and 5), with INFEED's tag counter and draining (R14, R16). -/
structure ZoneTracker where
  zone : List ZoneRecord
  incoming : List IncomingRecord
  lengthCount : Nat
  eyes : Eyes
  roomHeard : Vector Bool 16
  roomOpen : Bool
  announced : Option Bool
  tagCounter : W16
  draining : Bool
  deriving DecidableEq, Repr

/-- Identity Reader (R11 to R13). -/
structure Reader where
  slot : Option PartId
  window : Option Nat
  assembly : List Byte
  deriving DecidableEq, Repr

/-- Part Magazine Unit (chapter 7). -/
structure PartMagazine where
  magazine : List PartEntry
  voids : List VoidEntry
  doubt : Bool
  arrival : Byte
  low : Bool
  high : Bool
  deriving DecidableEq, Repr

/-- Work Sequencer (chapters 7, 9 and 10). -/
structure WorkSequencer where
  parts : PartsWork
  matchIndex : Option Nat
  cycle : Option Cycle
  doneOn : Bool
  press : PressState
  book : PressBook
  heat : Option HeatPhase
  setLeft : Option Nat
  suspendLeft : Option Nat
  divert : Option Nat
  deriving DecidableEq, Repr

/-- Heat Share Unit (chapter 8). -/
structure HeatShare where
  holders : List Pos
  waits : List WaitEntry
  claim : ClaimState
  use : ClaimUse
  pendingBook : Bool
  holdOff : Option Nat
  claimWait : Option Nat
  warm : Bool
  warmLeft : Option Nat
  due : Bool
  burst : Option Nat
  deriving DecidableEq, Repr

/-- Port and Event Unit (chapter 11) with the three counts. The transaction in progress, if any, is a WATCH
with its selector byte or a read. `dataOut` is every level that the last transaction shifted out,
each byte most significant bit first (R179), the model's record of the data output (log entry 30). -/
structure PortUnit where
  watch : Option Byte
  reading : Option Reading
  dataOut : List Bool
  result : PortResult
  latches : Vector Bool 17
  since : Vector Bool 17
  enables : Vector Bool 17
  groups : Vector Bool 4
  master : Bool
  journal : List JournalEntry
  stamp : W16
  retired : W16
  passed : W16
  diverted : W16
  deriving DecidableEq, Repr

/-- The whole machine. `pending` is the queue of commands that wait, first in, first out, and
`freeCount` the counter the free values of `Config` are applied to: both are the model's own fields. -/
structure State where
  params : ParamStore
  bus : LineBus
  mem : Membership
  zt : ZoneTracker
  rd : Reader
  parts : PartMagazine
  work : WorkSequencer
  heat : HeatShare
  port : PortUnit
  freeCount : Nat
  pending : List Instr
  deriving DecidableEq, Repr

/-- No command of this part stops the machine with a fault: the type has no value. Every error the
manual describes is a port result, a halt reason, a latch or a journal entry, and stands in the
state. Safe: nothing is cut short by it. -/
inductive Fault where
  deriving DecidableEq, Repr

/-- The refusals: only the one `exec` may use for a command without a meaning; no arm uses it, since
every command has its meaning. Safe. -/
inductive Refusal where
  /-- Raised by no arm of `exec` now; it names a command that has no meaning yet. Safe. -/
  | notModelled (mnemonic : String)
  deriving DecidableEq, Repr

/-! ### Reset values -/

/-- The empty set of stop reasons. -/
def Reasons.empty : Reasons := ⟨false, false, false, false, false⟩

/-- A member table entry after reset (R47). -/
def Member.unknown : Member := ⟨.unknown, none, false⟩

/-- A format entry after reset (R10); its valid byte 0 is a DESIGN CHOICE (log entry 29). -/
def FormatEntry.atReset : FormatEntry := ⟨0, 100, 0, 5, 0⟩

/-- The defaults of the line parameters, in the order of R35. -/
def lineDefaults : Vector W16 8 := #v[500, 2, 250, 3, 60, 20, 80, 45]

/-- The defaults of the station parameters, in the order of R36 and the encodings of 12.2. -/
def stationDefaults : Vector W16 20 :=
  #v[2, 1, 0, 0, 0, 0, 192, 300, 800, 10, 2, 30, 2, 4, 2, 200, 15, 10, 30, 300]

/-- No book at the press (R165). -/
def PressBook.none : PressBook := ⟨0, 0, false, false, false⟩

/-- The Parameter Store after a reset that sampled `straps` (R53). -/
def ParamStore.atReset (straps : Straps) : ParamStore :=
  { straps, line := lineDefaults, station := stationDefaults,
    formats := Vector.replicate 16 FormatEntry.atReset, digest := 0, offending := 255 }

/-- The Line Bus Controller after reset (R17). -/
def LineBus.atReset : LineBus :=
  { attached := false, txq := [], frame := .none, drive := .none, quiet := 0 }

/-- The Membership Unit after a reset of the kind `cause` (R53, R104). -/
def Membership.atReset (cause : ResetCause) : Membership :=
  { station := .config, resetCause := cause, haltReason := .none,
    members := Vector.replicate 16 Member.unknown, silence := Vector.replicate 16 none,
    joinWindow := none, stopAdopted := false, shareAdopted := false, beaconTimer := none,
    stopSet := Vector.replicate 16 Reasons.empty, ownStop := Reasons.empty, guardOpen := false }

/-- The Zone Tracker after a reset that leaves the tag counter at `tag` (R76, R93, R14, R16). -/
def ZoneTracker.atReset (tag : W16) : ZoneTracker :=
  { zone := [], incoming := [], lengthCount := 0, eyes := ⟨false, false, false, false⟩,
    roomHeard := Vector.replicate 16 false, roomOpen := true, announced := none,
    tagCounter := tag, draining := false }

/-- The Identity Reader after reset (R12, R13). -/
def Reader.atReset : Reader := { slot := none, window := none, assembly := [] }

/-- The Part Magazine Unit after reset (R125). -/
def PartMagazine.atReset : PartMagazine :=
  { magazine := [], voids := [], doubt := false, arrival := 0, low := true, high := false }

/-- The Work Sequencer after reset (R125, R165, R178). -/
def WorkSequencer.atReset : WorkSequencer :=
  { parts := .idle, matchIndex := none, cycle := none, doneOn := false, press := .idle,
    book := PressBook.none, heat := none, setLeft := none, suspendLeft := none, divert := none }

/-- The Heat Share Unit after reset (R147). -/
def HeatShare.atReset : HeatShare :=
  { holders := [], waits := [], claim := .none, use := .none, pendingBook := false,
    holdOff := none, claimWait := none, warm := false, warmLeft := none, due := false,
    burst := none }

/-- The Port and Event Unit after reset (R192). -/
def PortUnit.atReset : PortUnit :=
  { watch := none, reading := none, dataOut := [], result := .accepted,
    latches := Vector.replicate 17 false, since := Vector.replicate 17 false,
    enables := Vector.replicate 17 false, groups := Vector.replicate 4 false, master := false,
    journal := [], stamp := 0, retired := 0, passed := 0, diverted := 0 }

/-- The straps held before the first command: DESIGN CHOICE (log entry 1). -/
def Straps.atReset : Straps := ⟨0, 0, false⟩

/-- The machine right after power-on (R53 and the reset tables of every chapter). -/
def State.reset : State :=
  { params := ParamStore.atReset Straps.atReset, bus := LineBus.atReset,
    mem := Membership.atReset .powerOn, zt := ZoneTracker.atReset 1, rd := Reader.atReset,
    parts := PartMagazine.atReset, work := WorkSequencer.atReset, heat := HeatShare.atReset,
    port := PortUnit.atReset, freeCount := 0, pending := [] }

end Sys2Proof.Machine
end

