-- ==== Sys2Proof/Machine/Operands.lean ====
section
/-! DEFINITION. Operand forms: byte order, the codes of chapter 12, the record image and the notice
payloads as they are sent (12.1) and as they are read (R193). -/

namespace Sys2Proof.Machine

/-! ### Byte order (chapter 12: most significant byte first) -/

/-- A 16-bit word as two bytes, most significant first. -/
def bytes2 (w : W16) : List Byte := [w.extractLsb' 8 8, w.extractLsb' 0 8]

/-- A 24-bit word as three bytes, most significant first. -/
def bytes3 (w : BitVec 24) : List Byte :=
  [w.extractLsb' 16 8, w.extractLsb' 8 8, w.extractLsb' 0 8]

/-- The word whose bytes, most significant first, are `a b`. -/
def word2 (a b : Byte) : W16 := a ++ b

/-- The word whose bytes, most significant first, are `a b c`. -/
def word3 (a b c : Byte) : BitVec 24 := (a ++ b : BitVec 16) ++ c

/-- A number as two bytes. -/
def nat2 (n : Nat) : List Byte := bytes2 (BitVec.ofNat 16 n)

/-- A number as one byte. -/
def nat1 (n : Nat) : Byte := BitVec.ofNat 8 n

/-- A byte with bit `k` set when `b` holds. -/
def bitAt (k : Nat) (b : Bool) : Nat := if b then 2 ^ k else 0

/-! ### Positions -/

/-- A position field uses bits 0 to 3 only (R193). -/
def posOfByte (b : Byte) : Pos := ⟨b.toNat % 16, Nat.mod_lt _ (by decide)⟩

/-- A position as it travels: position minus 1 (chapter 12). -/
def byteOfPos (p : Pos) : Byte := nat1 p.val

/-! ### Codes -/

/-- The role a role code names, if any (R34). -/
def Role.ofCode (c : Nat) : Option Role :=
  if c = 1 then some .infeed else if c = 2 then some .case else if c = 3 then some .press
  else if c = 4 then some .jacket else if c = 5 then some .gate else none

/-- The code of a role (R34). -/
def Role.code : Role → Nat
  | .infeed => 1 | .case => 2 | .press => 3 | .jacket => 4 | .gate => 5

/-- Mark kind codes run from 0 to 13 in the order of R4 (12.1). -/
def MarkKind.code : MarkKind → Nat
  | .unknown => 0 | .noId => 1 | .badFormat => 2 | .length => 3 | .noCase => 4
  | .cycleFault => 5 | .openTime => 6 | .heatStarved => 7 | .dwellBroken => 8
  | .underpressed => 9 | .noJacket => 10 | .incomplete => 11 | .machine => 12
  | .divertFail => 13

/-- A mark kind code above 13 is read as UNKNOWN (R193). -/
def MarkKind.ofCode (c : Nat) : MarkKind :=
  if c = 1 then .noId else if c = 2 then .badFormat else if c = 3 then .length
  else if c = 4 then .noCase else if c = 5 then .cycleFault else if c = 6 then .openTime
  else if c = 7 then .heatStarved else if c = 8 then .dwellBroken
  else if c = 9 then .underpressed else if c = 10 then .noJacket
  else if c = 11 then .incomplete else if c = 12 then .machine
  else if c = 13 then .divertFail else .unknown

/-- The class of a notice kind (R33). -/
def NoticeKind.cls : NoticeKind → Nat
  | .stop | .go | .absent => 0
  | .claim | .release | .withdraw => 1
  | .handover | .room | .void => 2
  | .join | .beacon => 3

/-- The kind code within the class (12.1). -/
def NoticeKind.code : NoticeKind → Nat
  | .stop => 0 | .go => 1 | .absent => 2
  | .claim => 0 | .release => 1 | .withdraw => 2
  | .handover => 0 | .room => 1 | .void => 2
  | .join => 0 | .beacon => 1

/-- A notice kind in a journal detail is its class times 16 plus its kind code (12.2). -/
def NoticeKind.detailCode (k : NoticeKind) : Nat := k.cls * 16 + k.code

/-- The code of a halt reason (status byte 2 of 12.2). -/
def HaltReason.code : HaltReason → Nat
  | .none => 0 | .busFault => 1 | .txqFull => 2 | .digestClash => 3 | .positionClash => 4
  | .absentSelf => 5

/-- The code of a claim's use (12.2). -/
def ClaimUse.code : ClaimUse → Nat
  | .none => 0 | .keepwarm => 1 | .book => 2

/-- The code of a claim's class (12.2). -/
def ClaimClass.code : ClaimClass → Nat
  | .keepwarm => 0 | .book => 1

/-- The kind of a queued notice. -/
def Notice.kind : Notice → NoticeKind
  | .stop _ => .stop | .go => .go | .absent _ => .absent
  | .claim _ => .claim | .release => .release | .withdraw => .withdraw
  | .handover _ _ _ => .handover | .room _ => .room | .void _ _ _ _ => .void
  | .join _ _ => .join | .beacon => .beacon

/-! ### Stop reasons -/

/-- The reason byte of a STOP (12.1). -/
def Reasons.toNat (r : Reasons) : Nat :=
  bitAt 0 r.guard + bitAt 1 r.command + bitAt 2 r.cycleFault + bitAt 3 r.divertFail
    + bitAt 4 r.magOverrun

/-- The reasons a byte names in bits 0 to 4 (12.1). -/
def Reasons.ofNat (n : Nat) : Reasons :=
  ⟨n.testBit 0, n.testBit 1, n.testBit 2, n.testBit 3, n.testBit 4⟩

/-! ### The record image (12.1) -/

/-- A marriage in two bytes, position 1 to 16 or 0 for absent. -/
def marriageBytes : Option Marriage → List Byte
  | none => [0, 0]
  | some m => [nat1 (posNumber m.position), m.arrival]

/-- A marriage position of 0 or above 16 is absent (12, R193). -/
def marriageOf (p a : Byte) : Option Marriage :=
  if h : 1 ≤ p.toNat ∧ p.toNat ≤ 16 then some ⟨⟨p.toNat - 1, by omega⟩, a⟩ else none

/-- A field of two bytes that may be absent, FFFFh. -/
def absent2 : Option Nat → List Byte
  | none => [0xFF, 0xFF]
  | some n => nat2 n

/-- A format byte, FFh for absent. -/
def formatByte : Option FormatIx → Byte
  | none => 0xFF
  | some f => nat1 f.val

/-- A format byte above 15 is absent (R193). -/
def formatOf (b : Byte) : Option FormatIx :=
  if h : b.toNat < 16 then some ⟨b.toNat, h⟩ else none

/-- A title key, 0 for absent. -/
def keyBytes (k : Option Key) : List Byte := bytes3 (k.getD 0)

/-- A mark in one byte: kind code in bits 4 to 7, position in bits 0 to 3. -/
def markByte (m : Mark) : Byte := nat1 (m.kind.code * 16 + m.position.val)

/-- The mark a byte gives (12.1, R193). -/
def markOf (b : Byte) : Mark := ⟨MarkKind.ofCode (b.toNat / 16), posOfByte b⟩

/-- The record image, with the open time left as `openTime` gives it (R81). -/
def recordImage (r : BookRecord) (openTime : Option Nat) : List Byte :=
  bytes2 r.tag ++ keyBytes r.key ++ bytes2 (r.copy.getD 0) ++ [formatByte r.format]
    ++ marriageBytes r.caseMarriage ++ absent2 openTime ++ nat2 r.heatDone
    ++ [nat1 (bitAt 0 r.pressed)] ++ marriageBytes r.jacketMarriage ++ absent2 r.length
    ++ [nat1 r.marks.length] ++ (r.marks.map markByte ++ List.replicate 4 0).take 4

/-- The record a record image gives (R193). Tag 0 with a title key, and pressed without a format, which break R1
and R7 and for which R193 lists no reading, are kept as carried (log entry 45). -/
def recordOf (b : RecordImage) : BookRecord :=
  let key := word3 b[2] b[3] b[4]
  let copy := word2 b[5] b[6]
  let named := key ≠ 0 ∧ copy ≠ 0
  let caseM := marriageOf b[8] b[9]
  let pressed := b[14].getLsbD 0
  let count := min b[19].toNat 4
  let marks := ([b[20], b[21], b[22], b[23]].take count).map markOf
  let good := count = 0
  let time := (word2 b[10] b[11]).toNat
  let length := (word2 b[17] b[18]).toNat
  { tag := word2 b[0] b[1]
    key := if named then some key else none
    copy := if named then some copy else none
    format := if named then formatOf b[7] else none
    caseMarriage := caseM
    openTime :=
      if good ∧ caseM.isSome ∧ time ≠ 0xFFFF then some (min time 3000) else none
    heatDone := min (word2 b[12] b[13]).toNat 6000
    pressed := pressed
    jacketMarriage := if caseM.isSome ∧ pressed then marriageOf b[15] b[16] else none
    length := if length = 0xFFFF then none else some length
    verdict := if good then .good else .reject
    marks := marks }

/-! ### The BEACON payload (12.1) -/

/-- The stop set snapshot: sixteen five-bit reason sets, position 1 in the top bits. -/
def stopSetNat (t : Vector Reasons 16) : Nat := t.toList.foldl (fun n r => n * 32 + r.toNat) 0

/-- The ten bytes of a stop set snapshot. -/
def stopSetBytes (t : Vector Reasons 16) : List Byte :=
  (List.range 10).map fun i => nat1 (stopSetNat t / 256 ^ (9 - i))

/-- The reason sets ten bytes give, position 1 from the top bits. -/
def stopSetOf (bytes : List Byte) : Vector Reasons 16 :=
  let n := bytes.foldl (fun n b => n * 256 + b.toNat) 0
  Vector.ofFn fun (p : Pos) => Reasons.ofNat (n / 32 ^ (15 - p.val))

/-- The two bytes of a holder set: bit 15 − (p − 1) is set when position p holds. -/
def holderNat (holders : List Pos) : Nat :=
  ((List.finRange 16).map fun p => bitAt (15 - p.val) (holders.contains p)).sum

/-- The holders two bytes name, lowest position first. -/
def holdersOf (w : W16) : List Pos := (List.finRange 16).filter fun p => w.getLsbD (15 - p.val)

/-- A wait list entry in one byte: position in bits 0 to 3, class in bit 4. -/
def waitByte (e : WaitEntry) : Byte := nat1 (e.position.val + bitAt 4 (e.cls == .book))

/-- The wait list entry a byte gives. -/
def waitOf (b : Byte) : WaitEntry :=
  ⟨posOfByte b, if b.getLsbD 4 then .book else .keepwarm⟩

/-- What a BEACON's payload says: role code, room, digest, stop set snapshot, and the share snapshot
when the role is PRESS and the length carries one (R193). -/
structure BeaconContent where
  roleCode : Nat
  room : Bool
  digest : W16
  stops : Vector Reasons 16
  shares : Option (List Pos × List WaitEntry)
  deriving DecidableEq, Repr

/-- Byte `i` of a payload, 0 beyond its end. -/
def byteAt (payload : List Byte) (i : Nat) : Byte := payload.getD i 0

/-- A BEACON payload as it is read (12.1, R193). -/
def beaconOf (payload : List Byte) : BeaconContent :=
  let b0 := byteAt payload 0
  let code := b0.toNat % 8
  { roleCode := code
    room := b0.getLsbD 3
    digest := word2 (byteAt payload 1) (byteAt payload 2)
    stops := stopSetOf ((payload.drop 3).take 10)
    shares :=
      if code = 3 ∧ 15 ≤ payload.length then
        some (holdersOf (word2 (byteAt payload 13) (byteAt payload 14)),
          (payload.drop 15).map waitOf)
      else none }

/-- A BEACON payload as it is sent (12.1). -/
def beaconBytes (c : BeaconContent) : List Byte :=
  [nat1 (c.roleCode + bitAt 3 c.room)] ++ bytes2 c.digest ++ stopSetBytes c.stops ++
    (match c.shares with
     | none => []
     | some (holders, waits) => nat2 (holderNat holders) ++ waits.map waitByte)

/-! ### The open time left as it is shown -/

/-- The whole ds left, a step in progress counted as spent (R81): `step` is the milliseconds the
current step has run (log entry 12). A step of which all 100 ms have run is in progress no longer. Only a
HANDOVER in the queue holds one, the last: its expiry has come and is not yet taken, and a start bit taken
first carries the last whole ds (R91, log entry 46). -/
def openTimeShown (openTime : Option Nat) (step : Nat) : Option Nat :=
  openTime.map fun n => if step = 0 ∨ 100 ≤ step then n else n - 1

/-! ### The line digest and the frame check (12, R40, R18) -/

/-- One bit fed into the check register (chapter 12). -/
def checkBit (reg : W16) (b : Bool) : W16 :=
  if reg.msb != b then (reg <<< 1) ^^^ 0x1021 else reg <<< 1

/-- The bits of a byte in the order sent, most significant first. -/
def byteBits (b : Byte) : List Bool :=
  [b.getLsbD 7, b.getLsbD 6, b.getLsbD 5, b.getLsbD 4, b.getLsbD 3, b.getLsbD 2, b.getLsbD 1,
   b.getLsbD 0]

/-- The check over a list of bits, from FFFFh. -/
def checkOf (bits : List Bool) : W16 := bits.foldl checkBit 0xFFFF

/-- The 8-byte image of a format entry (12.2). -/
def formatImage (e : FormatEntry) : List Byte :=
  [e.valid] ++ bytes2 e.nominal ++ [e.tolerance] ++ bytes2 e.heat ++ bytes2 e.setTime

/-- The 144-byte digest image: the line parameters, then the format entries (12.2). -/
def digestImage (line : Vector W16 8) (formats : Vector FormatEntry 16) : List Byte :=
  line.toList.flatMap bytes2 ++ formats.toList.flatMap formatImage

/-- The line digest (R40). -/
def lineDigest (line : Vector W16 8) (formats : Vector FormatEntry 16) : W16 :=
  checkOf ((digestImage line formats).flatMap byteBits)

end Sys2Proof.Machine
end

