-- ==== Sys2Proof/Machine/Flags.lean ====
section
/-! DEFINITION. Event latches, the journal, the last command result and attention (R180, R187 to R191). -/

namespace Sys2Proof.Machine

/-- The number of a latch, in the order of R187 (12.2). -/
def Latch.index : Latch → Fin 17
  | .arrivalUnknown => 0 | .recordMissing => 1 | .recordDropped => 2 | .lengthFault => 3
  | .divertFail => 4 | .magLow => 5 | .magHigh => 6 | .magOverrun => 7 | .matchFail => 8
  | .openTime => 9 | .dwellBroken => 10 | .claimStarved => 11 | .tableDiverge => 12
  | .lineStopped => 13 | .lineRunning => 14 | .memberChange => 15 | .journalWrap => 16

/-- The group of a latch number: ZONE 0, PARTS 1, HEAT 2, LINE 3 (R187). -/
def latchGroup (k : Fin 17) : Fin 4 :=
  if k.val < 5 then 0 else if k.val < 9 then 1 else if k.val < 13 then 2 else 3

/-- The code of a journal entry kind, from 1 in the order of the table (12.2). -/
def JournalKind.code : JournalKind → Nat
  | .readError => 1 | .idOverrun => 2 | .idDiscarded => 3
  | .badFrame => 4 | .sendFailed => 5 | .txqFull => 6
  | .joinTaken => 7 | .running => 8 | .halted => 9 | .memberJoined => 10
  | .memberRejoined => 11 | .memberAbsent => 12 | .ownStop => 13 | .lineStopped => 14
  | .lineRunning => 15
  | .zoneOverrun => 16 | .arrivalUnknown => 17 | .adopted => 18 | .duplicate => 19
  | .incomingOverrun => 20 | .missing => 21 | .length => 22 | .eyeOrder => 23 | .noPeer => 24
  | .undelivered => 25 | .retired => 26 | .purged => 27 | .openTime => 28
  | .blankEntry => 29 | .magOverrun => 30 | .voidOverflow => 31 | .skipped => 32
  | .matchFail => 33 | .cycleTimeout => 34 | .skipTimeout => 35 | .lateDone => 36
  | .magCleared => 37 | .noCase => 38 | .underpressed => 39
  | .protocol => 40 | .claimStarved => 41 | .grantUnwanted => 42 | .keepwarmLapsed => 43
  | .tableDiverge => 44 | .grantReturned => 45 | .pressed => 46 | .heatPartial => 47
  | .heatSuspended => 48 | .heatResumed => 49 | .dwellBroken => 50
  | .incomplete => 51 | .diverted => 52 | .divertFail => 53 | .strayDivert => 54
  | .machineMark => 55

/-- A latch's event occurs: the latch is set and its set-since-snapshot mark raised (R187). -/
def PortUnit.setLatch (l : Latch) (p : PortUnit) : PortUnit :=
  { p with latches := p.latches.set l.index true, since := p.since.set l.index true }

/-- The head of the journal is no longer the entry that a READ JOURNAL has copied (R191). -/
def Reading.headGone (r : Reading) : Reading := { r with copied := false }

/-- An entry is appended; a full journal first discards its oldest and sets JOURNAL_WRAP (R190), so that a
READ JOURNAL that has copied it removes nothing (R191). -/
def PortUnit.append (kind : JournalKind) (tag : W16) (detail : Detail) (p : PortUnit) :
    PortUnit :=
  let entry : JournalEntry := ⟨kind, tag, detail, p.stamp⟩
  if p.journal.length < Config.journalCap then { p with journal := p.journal ++ [entry] }
  else
    { p.setLatch .journalWrap with
      journal := p.journal.drop 1 ++ [entry]
      reading := p.reading.map Reading.headGone }

/-- Set a latch (R187). -/
def State.latch (l : Latch) (s : State) : State := { s with port := s.port.setLatch l }

/-- Write a journal entry (R190). -/
def State.log (kind : JournalKind) (tag : W16) (detail : Detail) (s : State) : State :=
  { s with port := s.port.append kind tag detail }

/-- Write the last command result (R180). -/
def State.answer (r : PortResult) (s : State) : State := { s with port.result := r }

/-- The attention output (R188). -/
def State.attention (s : State) : Bool :=
  s.port.master && (List.finRange 17).any fun k =>
    s.port.latches[k] && s.port.enables[k] && s.port.groups[latchGroup k]

/-- The three bytes of a set of latches, latch k in bit k (12.2). -/
def latchImage (t : Vector Bool 17) : List Byte :=
  bytes3 (BitVec.ofNat 24 ((List.finRange 17).map fun k => bitAt k.val t[k]).sum)

/-- The tag and detail fields of a journal entry image (12.2): a SKIPPED entry puts its arrival number
and its void in the tag and its title key in the detail. -/
def detailFields (tag : W16) : Detail → List Byte
  | .none => bytes2 tag ++ [0, 0, 0]
  | .value v => bytes2 tag ++ bytes3 (BitVec.ofNat 24 v)
  | .pair a b => bytes2 tag ++ [nat1 a] ++ nat2 b
  | .skip arrival key consumed => [nat1 (bitAt 0 consumed), arrival] ++ keyBytes key

/-- The 8-byte image of a journal entry (12.2). -/
def journalImage (e : JournalEntry) : List Byte :=
  [nat1 e.kind.code] ++ detailFields e.tag e.detail ++ bytes2 e.stamp

end Sys2Proof.Machine
end

