-- ==== Sys2Proof/Machine/Ops.lean ====
section
/-! DEFINITION. The named operations every block shares: reading the configuration, doing one thing after
another until the station halts, halting (R46), queueing a notice (R28, R30), the own stop reasons
(R96, R97), the stop set and the line's standing (R94, R100), and marks (R5). -/

namespace Sys2Proof.Machine

/-! ### Tables over the sixteen positions -/

/-- A table with the entry of position `p` replaced. -/
def setAt {α : Type} (t : Vector α 16) (p : Pos) (x : α) : Vector α 16 := t.set p.val x p.isLt

/-! ### Reading the configuration -/

/-- The station's position (R34). -/
def State.own (s : State) : Pos := s.params.straps.position

/-- The station's role, none for a role code naming no role (R34). -/
def State.role (s : State) : Option Role := Role.ofCode s.params.straps.role.toNat

/-- A line parameter, in the order of R35. -/
def State.lineParam (s : State) (i : Fin 8) : Nat := s.params.line[i].toNat

/-- A station parameter, in the order of R36. -/
def State.stationParam (s : State) (i : Fin 20) : Nat := s.params.station[i].toNat

/-- Heat budget B, shares. -/
def State.heatBudget (s : State) : Nat := s.lineParam 1
/-- Beacon period, ms. -/
def State.beaconPeriod (s : State) : Nat := s.lineParam 2
/-- Absence limit, beacon periods. -/
def State.absenceLimit (s : State) : Nat := s.lineParam 3
/-- Keep-warm interval K, in ms. -/
def State.keepwarmMs (s : State) : Nat := s.lineParam 4 * 1000
/-- Keep-warm burst, in ms. -/
def State.burstMs (s : State) : Nat := s.lineParam 5 * 100
/-- Preheat P, ds. -/
def State.preheat (s : State) : Nat := s.lineParam 6
/-- Open time W, in ds (R116). -/
def State.openTimeDs (s : State) : Nat := s.lineParam 7 * 10
/-- Encoder scale, counts per mm. -/
def State.scale (s : State) : Nat := s.stationParam 0
/-- Read window, ms. -/
def State.readWindowMs (s : State) : Nat := s.stationParam 7
/-- Transit distance, in encoder counts (R56). -/
def State.transitCounts (s : State) : Nat := s.stationParam 8 * s.scale
/-- Adoption distance, in encoder counts (R56). -/
def State.adoptionCounts (s : State) : Nat := s.stationParam 9 * s.scale
/-- Room margin, records. -/
def State.roomMargin (s : State) : Nat := s.stationParam 10
/-- Cycle timeout, in ms. -/
def State.cycleMs (s : State) : Nat := s.stationParam 11 * 100
/-- Lookahead L, entries. -/
def State.lookahead (s : State) : Nat := s.stationParam 12
/-- Magazine low offset, entries. -/
def State.lowOffset (s : State) : Nat := s.stationParam 13
/-- Magazine high offset, entries. -/
def State.highOffset (s : State) : Nat := s.stationParam 14
/-- Max heat per book, ds. -/
def State.maxHeat (s : State) : Nat := s.stationParam 15
/-- Claim wait limit, in ms. -/
def State.claimWaitMs (s : State) : Nat := s.stationParam 16 * 1000
/-- Hold-off, in ms. -/
def State.holdOffMs (s : State) : Nat := s.stationParam 17 * 100
/-- Max suspend, in ms. -/
def State.maxSuspendMs (s : State) : Nat := s.stationParam 18 * 1000
/-- Confirm distance, in encoder counts (R172). -/
def State.confirmCounts (s : State) : Nat := s.stationParam 19 * s.scale

/-- The format entry a record names; the fields it holds are used as they stand (log entry 14). -/
def State.formatEntry (s : State) (f : FormatIx) : FormatEntry := s.params.formats[f]

/-- An entry is valid when its valid byte is 1 (R10). -/
def entryValid (e : FormatEntry) : Bool := e.valid == 1

/-- The format of an ID as it is stored: absent unless it lies from 0 to 15 with a valid entry (R10,
R15, R107). -/
def State.validFormat (s : State) (b : Byte) : Option FormatIx :=
  (formatOf b).filter fun f => entryValid (s.formatEntry f)

/-- The station is RUNNING. -/
abbrev State.isRunning (s : State) : Prop := s.mem.station = .running

/-- The station is JOINING or RUNNING. -/
abbrev State.isActive (s : State) : Prop :=
  s.mem.station = .joining ∨ s.mem.station = .running

/-- The parameters are locked from JOIN to the next reset (R39), in every state but CONFIG. -/
def State.locked (s : State) : Bool := s.mem.station != .config

/-- A JOINING station whose own JOIN has not been applied: its join window does not run yet (R42). -/
def State.awaitingJoin (s : State) : Bool :=
  s.mem.station == .joining && s.mem.joinWindow.isNone

/-! ### One thing after another -/

/-- Go on with `f` unless the station has halted: a cause that halts the station in the middle of a
step ends the step at that point (R46, log entry 10). -/
def State.andThen (s : State) (f : State → State) : State :=
  if s.mem.station = .halted then s else f s

/-! ### Halting (R46) -/

/-- No part entry waits for its ID: the window ended with no ID given (R108). -/
def noneWaiting (l : List PartEntry) : List PartEntry := l.map fun e => { e with waiting := false }

/-- Enter HALTED with a reason, from JOINING or RUNNING. The bus detaches and its queue is emptied
(R17, R25), the pending ID slot, the read window and a frame in assembly go (R11 to R13, R108), and
HALTED is journalled; everything else stays as it stood. -/
def State.halt (reason : HaltReason) (s : State) : State :=
  if s.isActive then
    State.log .halted 0 (.value reason.code)
      { s with
        mem.station := .halted
        mem.haltReason := reason
        bus.attached := false
        bus.txq := []
        bus.frame := .none
        bus.drive := .none
        rd := { slot := none, window := none, assembly := [] }
        parts.magazine := noneWaiting s.parts.magazine }
  else s

/-! ### Queueing a notice (R28, R30) -/

/-- Ask to queue a notice. In CONFIG and HALTED nothing is queued; with 16 notices waiting the station
halts with TXQ_FULL, journalled TXQ_FULL before HALTED: R30, R46 and R190 give no order (log entry 54). The
entry has tag 0 for a HANDOVER too: the model's choice (log entry 20). -/
def State.queue (n : Notice) (s : State) : State :=
  if s.isActive then
    if s.bus.txq.length < Config.txqCap then
      { s with bus.txq := s.bus.txq ++ [⟨n, 0⟩] }
    else (s.log .txqFull 0 (.value n.kind.detailCode)).halt .txqFull
  else s

/-! ### Own stop reasons (R96, R97) -/

/-- Whether a set of reasons is empty. -/
def Reasons.isEmpty (r : Reasons) : Bool := r == Reasons.empty

/-- Change the own stop reasons: a change is journalled OWN_STOP and queues STOP with the new set, or
GO when it is empty; no change queues nothing (R97). Reasons change in JOINING and RUNNING only. -/
def State.setOwnStop (r : Reasons) (s : State) : State :=
  if s.isActive ∧ r ≠ s.mem.ownStop then
    State.queue (if r.isEmpty then .go else .stop r)
      (State.log .ownStop 0 (.value r.toNat) { s with mem.ownStop := r })
  else s

/-- Add GUARD (R99). -/
def State.addGuard (s : State) : State := s.setOwnStop { s.mem.ownStop with guard := true }
/-- Remove GUARD (R99). -/
def State.removeGuard (s : State) : State := s.setOwnStop { s.mem.ownStop with guard := false }
/-- Add COMMAND (R98). -/
def State.addCommand (s : State) : State := s.setOwnStop { s.mem.ownStop with command := true }
/-- Add CYCLE_FAULT (R96). -/
def State.addCycleFault (s : State) : State :=
  s.setOwnStop { s.mem.ownStop with cycleFault := true }
/-- Add DIVERT_FAIL (R96). -/
def State.addDivertFail (s : State) : State :=
  s.setOwnStop { s.mem.ownStop with divertFail := true }
/-- Add MAG_OVERRUN (R96). -/
def State.addMagOverrun (s : State) : State :=
  s.setOwnStop { s.mem.ownStop with magOverrun := true }
/-- Remove MAG_OVERRUN (R124). -/
def State.removeMagOverrun (s : State) : State :=
  s.setOwnStop { s.mem.ownStop with magOverrun := false }
/-- Remove COMMAND, CYCLE_FAULT and DIVERT_FAIL together (R98). -/
def State.removeByGo (s : State) : State :=
  s.setOwnStop
    { s.mem.ownStop with command := false, cycleFault := false, divertFail := false }

/-! ### The stop set and the line (R94, R100) -/

/-- The stop set holds no entry. -/
def stopSetEmpty (t : Vector Reasons 16) : Bool := t.toList.all Reasons.isEmpty

/-- The line is running while the stop set is empty (R100). -/
def State.lineRunning (s : State) : Bool := stopSetEmpty s.mem.stopSet

/-- Put a stop set in place; a change of the line's standing sets its latch and is journalled with the
position that brought it (R100). -/
def State.setStops (t : Vector Reasons 16) (p : Pos) (s : State) : State :=
  let s' := { s with mem.stopSet := t }
  if s.lineRunning ∧ ¬ s'.lineRunning then
    (s'.latch .lineStopped).log .lineStopped 0 (.value (posNumber p))
  else if ¬ s.lineRunning ∧ s'.lineRunning then
    (s'.latch .lineRunning).log .lineRunning 0 (.value (posNumber p))
  else s'

/-- The entry of position `p` becomes `r`, the empty set removing it (R94). -/
def State.setStopEntry (p : Pos) (r : Reasons) (s : State) : State :=
  s.setStops (setAt s.mem.stopSet p r) p

/-! ### Marks (R5) -/

/-- Add a mark: it is stored while fewer than 4 are, the verdict becomes REJECT, and open time left is
removed. -/
def BookRecord.addMark (kind : MarkKind) (p : Pos) (r : BookRecord) : BookRecord :=
  { r with
    marks := if r.marks.length < Config.markCap then r.marks ++ [⟨kind, p⟩] else r.marks
    verdict := .reject
    openTime := none }

/-- A record's creation values with a tag (R1, R14). -/
def BookRecord.created (tag : W16) : BookRecord :=
  { tag, key := none, copy := none, format := none, caseMarriage := none, openTime := none,
    heatDone := 0, pressed := false, jacketMarriage := none, length := none, verdict := .good,
    marks := [] }

/-- A record placed in the zone list with its station-held state fresh (R9). -/
def ZoneRecord.fresh (b : BookRecord) (phase : Phase) (counting : Bool) : ZoneRecord :=
  { book := b, phase, adoption := none, counting, divertFailed := false, step := 0 }

/-- A provisional record is adoptable while it has an adoption distance (R61). -/
def ZoneRecord.adoptable (z : ZoneRecord) : Bool := z.adoption.isSome

/-- Change the book record of a zone record. -/
def ZoneRecord.onBook (f : BookRecord → BookRecord) (z : ZoneRecord) : ZoneRecord :=
  { z with book := f z.book }

/-- An anonymous record has tag 0 (R2). -/
def BookRecord.anonymous (r : BookRecord) : Bool := r.tag == 0

/-- Apply `f` to the first item of a list that `p` picks. -/
def mapFirst {α : Type} (p : α → Bool) (f : α → α) : List α → List α
  | [] => []
  | x :: xs => if p x then f x :: xs else x :: mapFirst p f xs

/-- The record at the work point, if any (R57: at most one). -/
def State.atWork? (s : State) : Option ZoneRecord := s.zt.zone.find? fun z => z.phase == .atWork

/-- Change the record at the work point. -/
def State.onAtWork (f : ZoneRecord → ZoneRecord) (s : State) : State :=
  { s with zt.zone := mapFirst (fun z => z.phase == .atWork) f s.zt.zone }

/-- Mark the record at the work point (R5). -/
def State.markAtWork (kind : MarkKind) (s : State) : State :=
  s.onAtWork (ZoneRecord.onBook (BookRecord.addMark kind s.own))

/-- The tag of the record at the work point, 0 for none. -/
def State.workTag (s : State) : W16 := (s.atWork?.map fun z => z.book.tag).getD 0

end Sys2Proof.Machine
end

