-- ==== Sys2Proof/Machine/Resets.lean ====
section
/-! DEFINITION. The three kinds of reset: POWER_ON, RESET_PIN and the RESET command (R53, R192). -/

namespace Sys2Proof.Machine

/-- The outcome of every command. -/
abbrev Result := Host.Outcome State Fault Refusal

/-- The machine after a reset of the kind `cause` that sampled `straps` and left the tag counter at
`tag` (R53, R14, and the reset table of every chapter). The model's own fields stay. -/
def State.afterReset (cause : ResetCause) (tag : W16) (straps : Straps) (s : State) : State :=
  { params := ParamStore.atReset straps, bus := LineBus.atReset,
    mem := Membership.atReset cause, zt := ZoneTracker.atReset tag, rd := Reader.atReset,
    parts := PartMagazine.atReset, work := WorkSequencer.atReset, heat := HeatShare.atReset,
    port := PortUnit.atReset, freeCount := s.freeCount, pending := s.pending }

/-- POWER_ON (R53): the tag counter is 1 (R14). -/
def execPowerOn (straps : Straps) (s : State) : Result := .next (s.afterReset .powerOn 1 straps)

/-- RESET_PIN (R53): the tag counter keeps its value (R14). -/
def execResetPin (straps : Straps) (s : State) : Result :=
  .next (s.afterReset .pin s.zt.tagCounter straps)

/-- RESET (R192): taken in every state and ACCEPTED; the tag counter keeps its value (R14). -/
def execReset (straps : Straps) (s : State) : Result :=
  .next (s.afterReset .command s.zt.tagCounter straps)

end Sys2Proof.Machine
end

