-- ==== Sys2Proof/Machine/Zone.lean ====
section
/-! DEFINITION. The Zone Tracker's shared operations: the downstream peer (R78, R79), room (R84, R85),
departures and VOID (R86, R87), provisional and anonymous records (R61), length checks (R66), work
done (R69), and the taking of a handed-over record (R62, R63, R82). -/

namespace Sys2Proof.Machine

/-! ### The downstream peer -/

/-- The downstream peer: the member of lowest position above the station's own whose status is not
UNKNOWN (R78). -/
def State.peer (s : State) : Option Pos :=
  (List.finRange 16).find? fun p => s.own < p && (s.mem.members[p]).status != .unknown

/-- Whether a member is open: RUNNING, not foreign, and its room-heard entry open (R79). -/
def State.memberOpen (s : State) (p : Pos) : Bool :=
  (s.mem.members[p]).status == .running && !(s.mem.members[p]).foreign && s.zt.roomHeard[p]

/-- Whether there is a downstream peer and it is open (R79). -/
def State.peerOpen (s : State) : Bool := s.peer.any s.memberOpen

/-! ### Room -/

/-- The room: 8 minus the records in the two lists (R84). -/
def State.room (s : State) : Int :=
  (Config.zoneCap : Int) - (s.zt.zone.length + s.zt.incoming.length : Nat)

/-- Judge room afresh: a change of the standing is kept and, in RUNNING, queues ROOM (R84, R85). -/
def State.judgeRoom (s : State) : State :=
  let now := decide ((s.roomMargin : Int) < s.room)
  if now = s.zt.roomOpen then s
  else
    let s1 := { s with zt.roomOpen := now }
    if s1.isRunning then
      (s1.queue (.room now)).andThen fun t => { t with zt.announced := some now }
    else s1

/-! ### Leaving the line -/

/-- The VOID rule: a departed record with a title key that lacks a marriage queues VOID (R87). -/
def State.voidFor (b : BookRecord) (s : State) : State :=
  match b.key with
  | none => s
  | some k =>
    if b.caseMarriage.isSome ∧ b.jacketMarriage.isSome then s
    else s.queue (.void k b.format b.caseMarriage.isNone b.jacketMarriage.isNone)

/-- A departure journalled with the record's tag and a detail, then the VOID rule and the room
(R84, R86, R87). -/
def State.depart (kind : JournalKind) (detail : Detail) (b : BookRecord) (s : State) : State :=
  ((s.log kind b.tag detail).voidFor b).andThen State.judgeRoom

/-- A DROPPED departure: the journal entry, the latch RECORD_DROPPED, and the VOID rule (R86, R87). -/
def State.drop (kind : JournalKind) (detail : Detail) (b : BookRecord) (s : State) : State :=
  ((s.log kind b.tag detail).latch .recordDropped).voidFor b

/-! ### Provisional and anonymous records (R61) -/

/-- A provisional record becomes anonymous: no longer adoptable, marked UNKNOWN. -/
def ZoneRecord.unknown (p : Pos) (z : ZoneRecord) : ZoneRecord :=
  { z with adoption := none, book := z.book.addMark .unknown p }

/-- The latch and journal entry of an item given an anonymous record (R61, R68). -/
def State.arrivalUnknown (s : State) : State :=
  (s.latch .arrivalUnknown).log .arrivalUnknown 0 .none

/-- The first adoptable provisional record, the oldest, becomes anonymous (R61). -/
def State.oldestUnknown (s : State) : State :=
  State.arrivalUnknown
    { s with zt.zone := mapFirst ZoneRecord.adoptable (ZoneRecord.unknown s.own) s.zt.zone }

/-- Put a new record at the tail of the zone list with its length count running from zero; a count
still running for another record ends unstored (R59, R65; log entry 6). -/
def State.enterZone (z : ZoneRecord) (s : State) : State :=
  { s with
    zt.zone := s.zt.zone.map (fun y => { y with counting := false }) ++ [{ z with counting := true }]
    zt.lengthCount := 0 }

/-! ### Length (R65, R66) -/

/-- A length passes from nominal minus tolerance to nominal plus tolerance, both included (R66). -/
def lengthPasses (e : FormatEntry) (mm : Nat) : Bool :=
  e.nominal.toNat ≤ mm + e.tolerance.toNat && mm ≤ e.nominal.toNat + e.tolerance.toNat

/-- The measured length in mm for a number of encoder counts (R8, R65). -/
def State.measured (s : State) (counts : Nat) : Nat := min 1023 (counts / s.scale)

/-- Whether a record with a measured length fails its length check: it has a format and the length is
out of tolerance (R66). -/
def State.lengthFails (s : State) (b : BookRecord) (mm : Nat) : Bool :=
  b.format.any fun f => !lengthPasses (s.formatEntry f) mm

/-- The latch and journal entry of a failing length (R66). -/
def State.lengthFault (tag : W16) (mm : Nat) (s : State) : State :=
  (s.latch .lengthFault).log .length tag (.value mm)

/-! ### Work done (R69) -/

/-- The AT_WORK record becomes WORKED. -/
def State.markWorked (s : State) : State := s.onAtWork fun z => { z with phase := .worked }

/-! ### Open time (R89, R90) -/

/-- Mark a book OPEN_TIME at this station (R90). -/
def BookRecord.outOfTime (p : Pos) (b : BookRecord) : BookRecord := b.addMark .openTime p

/-- The latch and journal entry of an open-time expiry (R90). -/
def State.openTimeFault (tag : W16) (s : State) : State :=
  (s.latch .openTime).log .openTime tag .none

/-! ### Taking a handed-over record (R62, R63, R82) -/

/-- The record with a tag stands in the zone list or the incoming list. -/
def State.holdsTag (s : State) (tag : W16) : Bool :=
  s.zt.zone.any (fun z => z.book.tag == tag) || s.zt.incoming.any (fun r => r.book.tag == tag)

/-- A taken record whose open time left is 0 is marked OPEN_TIME at once (R82). -/
def BookRecord.onTaking (p : Pos) (b : BookRecord) : BookRecord :=
  if b.openTime = some 0 then b.outOfTime p else b

/-- The latch and journal entry for a record taken with open time left 0 (R82). -/
def State.noteTaking (b : BookRecord) (s : State) : State :=
  if b.openTime = some 0 then s.openTimeFault b.tag else s

/-- Adoption into a provisional record (R63): every field is replaced, but a measured length of its own
is kept; the adoption distance goes, a fresh open-time step starts. -/
def ZoneRecord.adopt (b : BookRecord) (z : ZoneRecord) : ZoneRecord :=
  { z with book := { b with length := z.book.length <|> b.length }, adoption := none, step := 0 }

/-- The deferred length check of an adopted record, made against the adopted format when its own
length count had ended (R63, R66). -/
def State.deferredFails (s : State) (b : BookRecord) (own : Option Nat) : Bool :=
  own.any fun mm => s.lengthFails b mm

/-- Adopt a handed-over record into the oldest adoptable provisional record `z` (R63, R82, R66). -/
def State.adoptInto (z : ZoneRecord) (b : BookRecord) (s : State) : State :=
  let own := z.book.length
  let fails := s.deferredFails b own
  let taken := b.onTaking s.own
  let final := if fails then taken.addMark .length s.own else taken
  let s1 : State :=
    { s with zt.zone := mapFirst ZoneRecord.adoptable (ZoneRecord.adopt final) s.zt.zone }
  let s2 := (s1.log .adopted b.tag .none).noteTaking b
  if fails then s2.lengthFault b.tag (own.getD 0) else s2

/-- Place a handed-over record at the tail of the incoming list (R62, R82). -/
def State.placeIncoming (b : BookRecord) (s : State) : State :=
  State.noteTaking b
    { s with
      zt.incoming := s.zt.incoming ++ [⟨b.onTaking s.own, s.transitCounts, 0⟩] }

end Sys2Proof.Machine
end

