-- ==== Sys2Proof/Machine/Gate.lean ====
section
/-! DEFINITION. GATE work (R169 to R177). -/

namespace Sys2Proof.Machine

/-- A JACKET member stands at a lower position (R170). -/
def State.jacketUpstream (s : State) : Bool :=
  (List.finRange 16).any fun p =>
    decide (p < s.own) && (s.mem.members[p]).role == some .jacket
      && (s.mem.members[p]).status != .unknown

/-- A GOOD record lacks something the line should have given it (R169). -/
def State.incomplete (s : State) (b : BookRecord) : Bool :=
  b.caseMarriage.isNone || !b.pressed || (b.jacketMarriage.isNone && s.jacketUpstream)

/-- A divert begins (R172). -/
def State.beginDivert (s : State) : State := { s with work.divert := some s.confirmCounts }

/-- A record becomes AT_WORK at a GATE station (R67, R169, R171): an anonymous or REJECT record is diverted
whatever else it holds. -/
def State.judgeGate (z : ZoneRecord) (s : State) : State :=
  if z.book.anonymous ∨ z.book.verdict = .reject then s.beginDivert
  else if s.incomplete z.book then
    ((s.markAtWork .incomplete).log .incomplete z.book.tag .none).beginDivert
  else { s.markWorked with port.passed := s.port.passed + 1 }

/-- The record at work leaves the zone list. -/
def State.removeAtWork (s : State) : State :=
  { s with zt.zone := s.zt.zone.eraseP fun z => z.phase == .atWork }

/-- A divert is confirmed (R173). -/
def State.confirmDivert (z : ZoneRecord) (s : State) : State :=
  let s1 := s.removeAtWork
  State.depart .diverted .none z.book
    { s1 with work.divert := none, port.diverted := s.port.diverted + 1 }

/-- A divert fails (R174). -/
def State.failDivert (s : State) : State :=
  let tag := s.workTag
  let s1 := (s.markAtWork .divertFail).onAtWork fun z => { z with divertFailed := true }
  (State.addDivertFail { s1.markWorked with work.divert := none }).andThen fun t =>
    (t.latch .divertFail).log .divertFail tag .none

end Sys2Proof.Machine
end

