-- ==== Sys2Proof/Machine/Magazine.lean ====
section
/-! DEFINITION. The Part Magazine Unit and the work of CASE and JACKET stations (chapter 7, R166, R167):
thresholds, voids, matching, skip and marrying cycles, waiting and housekeeping. -/

namespace Sys2Proof.Machine

/-- The station has a part magazine: CASE or JACKET (R34). -/
def State.hasMagazine (s : State) : Bool := s.role == some .case || s.role == some .jacket

/-- Judge the thresholds afresh (R110): a change into a standing sets its latch. -/
def State.judgeThresholds (s : State) : State :=
  let count := s.parts.magazine.length
  let high := decide (Config.magazineCap - count ≤ s.highOffset)
  let low := decide (count ≤ s.lowOffset)
  let s1 := if high ∧ ¬ s.parts.high then s.latch .magHigh else s
  let s2 := if low ∧ ¬ s.parts.low then s1.latch .magLow else s1
  { s2 with parts.high := high, parts.low := low }

/-- A part entry equals a void entry (R112); a blank entry equals none. -/
def PartEntry.equalsVoid (e : PartEntry) (v : VoidEntry) : Bool :=
  e.key == some v.key && e.format == v.format

/-- The first item that `p` picks removed from a list. -/
def eraseFirst {α : Type} (p : α → Bool) : List α → List α
  | [] => []
  | x :: xs => if p x then xs else x :: eraseFirst p xs

/-- The head entry leaves the magazine list and the thresholds are judged (R115, R116). -/
def State.takeHead (rest : List PartEntry) (s : State) : State :=
  State.judgeThresholds { s with parts.magazine := rest }

/-- A skip cycle begins on the head entry (R115, R120): the entry leaves, the oldest equal void entry is
consumed, SKIPPED is journalled, and the cycle timer starts. -/
def State.startSkip (owned : Bool) (s : State) : State :=
  match s.parts.magazine with
  | [] => s
  | e :: rest =>
    let consumed := s.parts.voids.any e.equalsVoid
    let s1 := s.takeHead rest
    State.log .skipped 0 (.skip e.arrival e.key consumed)
      { s1 with
        parts.voids := eraseFirst e.equalsVoid s.parts.voids
        work.cycle := some ⟨.skip, owned, e.arrival, s.cycleMs⟩ }

/-- The marriage a marrying cycle writes into the record (R116, R167): at CASE the case marriage and the
open time W with a fresh step; at JACKET the jacket marriage. -/
def State.marry (arrival : Byte) (s : State) : State :=
  s.onAtWork fun z =>
    if s.role = some .case then
      { z with
        book := { z.book with
          caseMarriage := some ⟨s.own, arrival⟩, openTime := some s.openTimeDs }
        step := 0 }
    else { z with book := { z.book with jacketMarriage := some ⟨s.own, arrival⟩ } }

/-- The marrying cycle begins on the head entry (R116, R167). -/
def State.startMarry (s : State) : State :=
  match s.parts.magazine with
  | [] => s
  | e :: rest =>
    let s1 := (s.takeHead rest).marry e.arrival
    { s1 with
      work.parts := .cycling
      work.matchIndex := none
      work.cycle := some ⟨.marry, true, e.arrival, s.cycleMs⟩ }

/-- The head entry is unwanted: not waiting for its ID, and blank, without a format, or equal to a void
entry (R120). -/
def State.headUnwanted (s : State) : Bool :=
  match s.parts.magazine with
  | [] => false
  | e :: _ =>
    !e.waiting && (e.key.isNone || e.format.isNone || s.parts.voids.any e.equalsVoid)

/-- Judge housekeeping (R120): a housekeeping skip begins when all of its conditions hold. -/
def State.judgeHousekeeping (s : State) : State :=
  if s.isRunning ∧ s.hasMagazine ∧ s.work.parts = .idle ∧ s.work.cycle.isNone
      ∧ ¬ s.parts.doubt ∧ s.headUnwanted then
    s.startSkip false
  else s

/-- Work done at a CASE or JACKET station (R113, R166): WORKED, IDLE, and housekeeping is judged. -/
def State.partsDone (s : State) : State :=
  State.judgeHousekeeping { s.markWorked with work.parts := .idle, work.matchIndex := none }

/-- NO_CASE at CASE, NO_JACKET at JACKET (R126). -/
def State.noPartMark (s : State) : MarkKind :=
  if s.role = some .case then .noCase else .noJacket

/-- No part for the record (R114, R167): the mark, MATCH_FAIL, and a pass. -/
def State.noPart (s : State) : State :=
  State.partsDone
    (State.log .matchFail s.workTag .none ((s.markAtWork s.noPartMark).latch .matchFail))

/-- A part entry matches a record by title key and format, both present (R114). -/
def PartEntry.isFor (b : BookRecord) (e : PartEntry) : Bool :=
  b.key.isSome && b.format.isSome && e.key == b.key && e.format == b.format

/-- The index of the first match within the lookahead (R114). -/
def State.matchAt (s : State) (b : BookRecord) : Option Nat :=
  (s.parts.magazine.take (s.lookahead + 1)).findIdx? (PartEntry.isFor b)

/-- Matching (R114, R167). -/
def State.match? (b : BookRecord) (s : State) : State :=
  if s.parts.doubt then s.noPart
  else
    match s.matchAt b with
    | none => s.noPart
    | some 0 => s.startMarry
    | some (i + 1) =>
      State.startSkip true
        { s with work.parts := .skipping, work.matchIndex := some (i + 1) }

/-- A record that must wait for a cycle or a magazine read window waits, otherwise it is matched at once
(R113, R166, R121). -/
def State.waitOrMatch (b : BookRecord) (s : State) : State :=
  if s.work.cycle.isSome ∨ s.rd.window.isSome then { s with work.parts := .waiting }
  else s.match? b

/-- A record becomes AT_WORK at a CASE station (R113). -/
def State.judgeCase (z : ZoneRecord) (s : State) : State :=
  if z.book.anonymous ∨ z.book.verdict = .reject then s.partsDone
  else if z.book.caseMarriage.isSome then s.partsDone
  else s.waitOrMatch z.book

/-- A record becomes AT_WORK at a JACKET station (R166). -/
def State.judgeJacket (z : ZoneRecord) (s : State) : State :=
  if z.book.anonymous ∨ z.book.verdict = .reject then s.partsDone
  else if z.book.jacketMarriage.isSome then s.partsDone
  else if z.book.caseMarriage.isNone then
    ((s.markAtWork .noCase).log .noCase z.book.tag .none).partsDone
  else if ¬ z.book.pressed then
    ((s.markAtWork .underpressed).log .underpressed z.book.tag (.value z.book.heatDone)).partsDone
  else s.waitOrMatch z.book

/-- What follows the end of a cycle or a magazine read window (R120, R121): a waiting record is passed or
matched once no cycle and no window runs, and housekeeping is judged when no record waits. Two choices of
the model: a waiting record that is REJECT is passed without the mark NO_CASE though doubt was set while it
waited, or though MAGAZINE CLEAR ended its wait (R124, log entry 43), and the end of a read window judges housekeeping whichever entry waited (log entry
42). -/
def State.afterWait (s : State) : State :=
  if s.work.parts = .waiting then
    if s.work.cycle.isSome ∨ s.rd.window.isSome then s
    else
      match s.atWork? with
      | none => s
      | some z => if z.book.verdict = .reject then s.partsDone else s.match? z.book
  else s.judgeHousekeeping

/-- The sequel of a skip made in matching (R115): the record is judged again, then the next skip or the
marrying cycle begins. A record that is REJECT while doubt is set is passed without the mark NO_CASE: the
model's choice (log entry 43). -/
def State.afterMatchSkip (s : State) : State :=
  match s.atWork? with
  | none => s
  | some z =>
    if z.book.verdict = .reject then s.partsDone
    else if s.parts.doubt then s.noPart
    else
      match s.work.matchIndex with
      | some (i + 2) => State.startSkip true { s with work.matchIndex := some (i + 1) }
      | _ => s.startMarry

/-- The end of a cycle at the done input (R117). -/
def State.cycleEnds (c : Cycle) (s : State) : State :=
  let s1 := { s with work.cycle := none }
  match c.kind, c.owned with
  | .marry, true => s1.partsDone
  | .skip, true => s1.afterMatchSkip
  | _, false => s1.afterWait

/-- A marrying cycle reaches the cycle timeout (R118, R123, R167). -/
def State.marryTimesOut (c : Cycle) (s : State) : State :=
  let s1 := { s with work.cycle := none }
  if c.owned then
    (s1.markAtWork .cycleFault).addCycleFault.andThen fun t =>
      (t.log .cycleTimeout s.workTag (.value c.arrival.toNat)).partsDone
  else
    s1.addCycleFault.andThen fun t =>
      (t.log .cycleTimeout 0 (.value c.arrival.toNat)).afterWait

/-- A skip cycle reaches the cycle timeout (R119): doubt is set; a record being matched gets no part. -/
def State.skipTimesOut (c : Cycle) (s : State) : State :=
  State.andThen (State.addCycleFault { s with work.cycle := none }) fun t =>
    let t1 := t.log .skipTimeout 0 (.value c.arrival.toNat)
    let t2 := { t1 with parts.doubt := true }
    if c.owned then t2.noPart else t2.afterWait

/-- Give an ID to the entry that waits for one (R107, R108). -/
def State.fillWaiting (i : PartId) (s : State) : State :=
  { s with
    rd.window := none
    parts.magazine := s.parts.magazine.map fun e =>
      if e.waiting then
        { e with key := some i.key, format := s.validFormat i.format, waiting := false }
      else e }

/-- The entry that waits stays blank and stops waiting, journalled BLANK_ENTRY (R108). -/
def State.blankWaiting (s : State) : State :=
  match s.parts.magazine.find? PartEntry.waiting with
  | none => s
  | some e =>
    State.log .blankEntry 0 (.value e.arrival.toNat)
      { s with parts.magazine := noneWaiting s.parts.magazine }

/-- Append a part entry with the next arrival number and judge the thresholds (R105, R106, R110). -/
def State.appendPart (key : Option Key) (format : Option FormatIx) (waiting : Bool) (s : State) :
    State :=
  State.judgeThresholds
    { s with
      parts.magazine := s.parts.magazine ++ [⟨s.parts.arrival, key, format, waiting⟩]
      parts.arrival := s.parts.arrival + 1 }

/-- An arrival that finds the list full (R109): doubt is set and MAG_OVERRUN joins the own stop reasons; with
doubt set already both are left as they were. The latch and the journal entry come in either case. An entry
that waits for its ID waits on and its read window runs on, R108's row for a further feed edge being read as
one that appends: the model's choice (log entry 56). -/
def State.magazineOverrun (s : State) : State :=
  let s1 := (s.latch .magOverrun).log .magOverrun 0 .none
  if s.parts.doubt then s1 else State.addMagOverrun { s1 with parts.doubt := true }

/-- A part arrives at the feed eye (R107 to R109). Where the edge ends the window of a waiting head too,
housekeeping is judged once, after the append: the model's choice (log entry 57). -/
def State.partArrives (s : State) : State :=
  if Config.magazineCap ≤ s.parts.magazine.length then s.magazineOverrun
  else
    State.judgeHousekeeping <|
      match s.rd.slot with
      | some i =>
        State.appendPart (some i.key) (s.validFormat i.format) false { s with rd.slot := none }
      | none =>
        State.appendPart none none true
          { s.blankWaiting with rd.window := some s.readWindowMs }

/-- Append a void entry; a full list first discards its oldest, journalled VOID_OVERFLOW (R111). -/
def State.addVoid (v : VoidEntry) (s : State) : State :=
  let s1 :=
    if s.parts.voids.length < Config.voidCap then s
    else s.log .voidOverflow 0 (.value ((s.parts.voids.head?.map VoidEntry.key).getD 0).toNat)
  State.judgeHousekeeping
    { s1 with
      parts.voids :=
        (if s.parts.voids.length < Config.voidCap then s.parts.voids else s.parts.voids.drop 1)
          ++ [v] }

end Sys2Proof.Machine
end

