-- ==== Sys2Proof/Machine/Infeed.lean ====
section
/-! DEFINITION. INFEED work and the Identity Reader (R11 to R16). -/

namespace Sys2Proof.Machine

/-- The tag after a tag: from 65535 to 1, else the next higher (R14). -/
def nextTag (t : W16) : W16 := if t = 0xFFFF then 1 else t + 1

/-- An ID is taken for the AT_WORK record (R15): identity is filled in, a format that is not valid is
marked BAD_FORMAT, and work is done. -/
def State.takeId (i : PartId) (s : State) : State :=
  let format := s.validFormat i.format
  let filled := s.onAtWork <| ZoneRecord.onBook fun b =>
    { b with key := some i.key, copy := some i.copy, format := format }
  State.markWorked (if format.isNone then filled.markAtWork .badFormat else filled)

/-- A record becomes AT_WORK at an INFEED station (R15). -/
def State.judgeInfeed (z : ZoneRecord) (s : State) : State :=
  if z.book.anonymous then
    State.markWorked <|
      match s.rd.slot with
      | none => s
      | some i => State.log .idDiscarded 0 (.value i.key.toNat) { s with rd.slot := none }
  else
    match s.rd.slot with
    | some i => State.takeId i { s with rd.slot := none }
    | none => { s with rd.window := some s.readWindowMs }

/-- A good ID is delivered (R12): to the request of the running read window, or into the slot. -/
def State.deliverId (i : PartId) (s : State) : State :=
  if s.rd.window.isSome then
    if s.role = some .infeed then State.takeId i { s with rd.window := none }
    else (s.fillWaiting i).afterWait
  else
    let s1 :=
      match s.rd.slot with
      | none => s
      | some old => s.log .idOverrun 0 (.value old.key.toNat)
    { s1 with rd.slot := some i }

/-- The station's reader is used: INFEED, CASE and JACKET in RUNNING (R11). -/
def State.readerOn (s : State) : Bool :=
  s.mem.station == .running && (s.role == some .infeed || s.hasMagazine)

/-- The start byte of an ID frame (12.2). -/
def startByte : Byte := 0xA5

/-- The ID a complete frame gives, if it is good: the check byte is the exclusive-or of bytes 1 to 6, and
neither title key nor copy is 0 (R11, 12.2). -/
def frameId (b : List Byte) : Option PartId :=
  match b with
  | [_, k0, k1, k2, c0, c1, f, check] =>
    let key := word3 k0 k1 k2
    let copy := word2 c0 c1
    if check = k0 ^^^ k1 ^^^ k2 ^^^ c0 ^^^ c1 ^^^ f ∧ key ≠ 0 ∧ copy ≠ 0 then
      some ⟨key, copy, f⟩
    else none
  | _ => none

/-- A bad frame: READ_ERROR, and assembly waits for the next start byte (R11). -/
def State.readError (s : State) : State :=
  State.log .readError 0 .none { s with rd.assembly := [] }

/-- One byte on the reader line (R11; a byte with a low stop bit outside a frame is discarded, log
entry 15). -/
def State.readByte (s : State) (r : ReaderByte) : State :=
  if s.readerOn then
    match s.rd.assembly with
    | [] =>
      if r.stopHigh ∧ r.data = startByte then { s with rd.assembly := [r.data] } else s
    | begun =>
      if ¬ r.stopHigh then s.readError
      else if begun.length < 7 then { s with rd.assembly := begun ++ [r.data] }
      else
        match frameId (begun ++ [r.data]) with
        | none => s.readError
        | some i => State.deliverId i { s with rd.assembly := [] }
  else s

/-- The read window runs out (R13, R15, R108). -/
def State.windowExpires (s : State) : State :=
  let s1 := { s with rd.window := none }
  if s.role = some .infeed then (s1.markAtWork .noId).markWorked
  else s1.blankWaiting.afterWait

end Sys2Proof.Machine
end

