-- ==== Sys2Proof/Machine/Heat.lean ====
section
/-! DEFINITION. The Heat Share Unit's own claim (R133 to R136), bar warmth (R140) and the keep-warm logic
(R141, R143). -/

namespace Sys2Proof.Machine

/-- Queue CLAIM for a use; the own claim becomes QUEUED (R133, R134). -/
def State.queueClaim (cls : ClaimClass) (use : ClaimUse) (s : State) : State :=
  (s.queue (.claim cls)).andThen fun t => { t with heat.claim := .queued, heat.use := use }

/-- The conditions under which a CLAIM is queued at once (R134). -/
def State.mayClaim (s : State) : Bool :=
  s.mem.station == .running && s.heat.claim == .none && s.heat.holdOff.isNone

/-- The pending book claim is queued at the first point the conditions hold (R134). It is no longer pending once
it is asked for, so that it stands as dropped where TXQ_FULL then halts the station (log entry 54). -/
def State.tryPending (s : State) : State :=
  if s.heat.pendingBook ∧ s.mayClaim then
    State.queueClaim .book .book { s with heat.pendingBook := false }
  else s

/-- The keep-warm conditions (R141). -/
def State.wantsKeepwarm (s : State) : Bool :=
  s.role == some .press && s.mayClaim && s.heat.due && s.heat.warm
    && (!s.zt.zone.isEmpty || !s.zt.incoming.isEmpty) && s.work.press == .idle
    && !s.mem.guardOpen

/-- Judge the keep-warm conditions: CLAIM(KEEPWARM) when all hold (R141). -/
def State.judgeKeepwarm (s : State) : State :=
  if s.wantsKeepwarm then s.queueClaim .keepwarm .keepwarm else s

/-- What follows whenever a claim may become possible: the pending book claim first, then keep-warm
(R134, R141). -/
def State.claimsOpen (s : State) : State := s.tryPending.andThen State.judgeKeepwarm

/-- Ask for a share for the book at work (R134, R144, R150): take over a keep-warm claim that is queued
or waiting, queue CLAIM(BOOK) at once, or hold a pending book claim. A claim HOLDING for keep-warm with no
burst in progress, for which R144 and R150 have no row, leaves the book's claim pending: the model's choice
(log entry 44). -/
def State.askBook (s : State) : State :=
  if (s.heat.claim = .queued ∨ s.heat.claim = .waiting) ∧ s.heat.use = .keepwarm then
    { s with heat.use := .book }
  else if s.mayClaim then s.queueClaim .book .book
  else { s with heat.pendingBook := true }

/-- Give the claim up (R135): WITHDRAW from QUEUED or WAITING, RELEASE from HOLDING; the claim becomes
RETURNING with use none. -/
def State.giveUp (s : State) : State :=
  match s.heat.claim with
  | .queued | .waiting =>
    (s.queue .withdraw).andThen fun t =>
      { t with heat.claim := .returning, heat.use := .none, heat.claimWait := none }
  | .holding =>
    (s.queue .release).andThen fun t =>
      { t with heat.claim := .returning, heat.use := .none }
  | .returning | .none => s

/-- The bar becomes WARM and its warm timer restarts (R140). -/
def State.warmBar (s : State) : State :=
  { s with heat.warm := true, heat.warmLeft := some s.keepwarmMs, heat.due := false }

/-- A heat phase or burst begins: the warm timer stops (R140, R141). -/
def State.stopWarmTimer (s : State) : State := { s with heat.warmLeft := none, heat.due := false }

/-- The own claim returns to NONE (R133); what waited for it is asked for (R134, R141). -/
def State.claimNone (s : State) : State :=
  State.claimsOpen { s with heat.claim := .none, heat.use := .none }

/-- The station's own release is applied: NONE, and the hold-off starts unless its parameter is 0
(R133, R136). -/
def State.ownReleased (s : State) : State :=
  State.claimNone
    { s with heat.holdOff := if s.holdOffMs = 0 then none else some s.holdOffMs }

/-- The hold-off ends (R136). -/
def State.endHoldOff (s : State) : State := State.claimsOpen { s with heat.holdOff := none }

/-- A burst ends, by its time or by the guard (R142): the bar is WARM, the share is released. -/
def State.endBurst (s : State) : State :=
  State.giveUp (State.warmBar { s with heat.burst := none })

end Sys2Proof.Machine
end

