-- ==== Sys2Proof/Machine/Press.lean ====
section
/-! DEFINITION. Press work (chapter 9): taking a book, the heat phase, setting, suspension, marks, and the
grant event (R133, R138, R142, R151). -/

namespace Sys2Proof.Machine

/-- The heat time of a format, ds (R10). -/
def State.heatTime (s : State) (f : FormatIx) : Nat := (s.formatEntry f).heat.toNat

/-- The set time of the format of a book, ds; a book at the press has a format (R148). -/
def State.setTimeOf (s : State) (b : BookRecord) : Nat :=
  (b.format.map fun f => (s.formatEntry f).setTime.toNat).getD 0

/-- Credit a delivered book portion (R7, R153): heat done is capped at 6000, and pressed is set when it
reaches the format's heat time. -/
def State.credited (s : State) (portion : Nat) (b : BookRecord) : BookRecord :=
  let done := min 6000 (b.heatDone + portion)
  { b with heatDone := done, pressed := b.pressed || b.format.any fun f => s.heatTime f ≤ done }

/-- Work on the book at the press ends: the clamp opens, the record is WORKED, the press work returns to
IDLE, and keep-warm is judged (R149, R154, R141). -/
def State.finishPress (s : State) : State :=
  State.judgeKeepwarm
    { s.markWorked with
      work.press := .idle, work.book := PressBook.none, work.heat := none,
      work.setLeft := none, work.suspendLeft := none }

/-- A pass at PRESS: work done at once (R148). -/
def State.passPress (s : State) : State := s.markWorked.judgeKeepwarm

/-- Give the book's claim up, a pending one being dropped (R155). Where the book is pending while the own
claim is HOLDING for keep-warm with no burst, that claim is given back too, by RELEASE: the model's choice
(log entry 44). -/
def State.giveUpBook (s : State) : State := State.giveUp { s with heat.pendingBook := false }

/-- Leave WAIT_SHARE without a grant: the claim is given up, the clamp opens, work is done
(R155, R157). -/
def State.leaveWait (s : State) : State := s.giveUpBook.andThen State.finishPress

/-- A mark has been added to the AT_WORK record: a PRESS station in WAIT_SHARE gives the book up
(R157); in every other state the work goes on. -/
def State.afterMark (s : State) : State :=
  if s.role = some .press ∧ s.work.press = .waitShare then s.leaveWait else s

/-- Enter SET with the format's set time; a set time of 0 ends the phase at its start (R152, R154). -/
def State.enterSet (s : State) : State :=
  match s.atWork? with
  | none => s
  | some z =>
    let ms := s.setTimeOf z.book * 100
    let s1 := { s with work.press := .set, work.setLeft := some ms, work.suspendLeft := none }
    if ms = 0 then s1.finishPress else s1

/-- The heat phase begins with a preheat portion and the remaining book portion; open time is removed
and the warm timer stops (R151, R158). -/
def State.beginHeat (preheat : Nat) (s : State) : State :=
  let s1 := s.onAtWork (ZoneRecord.onBook fun b => { b with openTime := none })
  { s1.stopWarmTimer with
    work.press := .heat
    work.heat := some ⟨preheat, s.work.book.allowance - s.work.book.credited, 0⟩ }

/-- A grant given to the book in WAIT_SHARE (R151): the heat phase begins, or with the guard open the
share is given back. -/
def State.grantToBook (s : State) : State :=
  if s.work.press = .waitShare then
    if s.mem.guardOpen then
      s.giveUp.andThen fun t =>
        State.log .grantReturned t.workTag .none { t with work.book.returned := true }
    else s.beginHeat (if s.heat.warm then 0 else s.preheat)
  else s

/-- A grant given to the use KEEPWARM (R142): a burst begins, or with the guard open the share is given
back. -/
def State.grantToKeepwarm (s : State) : State :=
  if s.mem.guardOpen then
    s.giveUp.andThen fun t => t.log .grantReturned 0 .none
  else { s.stopWarmTimer with heat.burst := some s.burstMs }

/-- The grant event: the station's own position has become a holder (R132, R133, R138). -/
def State.grantEvent (s : State) : State :=
  match s.heat.claim with
  | .queued | .waiting =>
    let s1 := { s with heat.claim := .holding, heat.claimWait := none }
    match s.heat.use with
    | .book => s1.grantToBook
    | .keepwarm => s1.grantToKeepwarm
    | .none => s1
  | .returning => s.log .grantUnwanted 0 .none
  | .holding | .none => s

/-- Take a book to be pressed (R150, R158): its allowance is fixed; it takes over a burst in progress, or
enters WAIT_SHARE and asks for a share (HOLDING for keep-warm with no burst: log entry 44). -/
def State.takeBook (b : BookRecord) (f : FormatIx) (s : State) : State :=
  let s1 : State :=
    { s with
      work.book := { PressBook.none with allowance := min (s.heatTime f - b.heatDone) s.maxHeat } }
  if s.heat.claim = .holding ∧ s.heat.use = .keepwarm ∧ s.heat.burst.isSome then
    State.beginHeat 0 { s1 with heat.use := .book, heat.burst := none }
  else State.askBook { s1 with work.press := .waitShare }

/-- A record becomes AT_WORK at a PRESS station (R148). A record without a format is not pressed (R7,
log entry 13). -/
def State.judgePress (z : ZoneRecord) (s : State) : State :=
  let b := z.book
  if b.anonymous ∨ b.verdict = .reject then s.passPress
  else if b.pressed then s.passPress
  else if b.caseMarriage.isNone then
    ((s.markAtWork .noCase).log .noCase b.tag .none).passPress
  else
    match b.format with
    | none => s.passPress
    | some f => s.takeBook b f

/-- The whole ds a heat phase has run beyond its preheat portion, at most its book portion (R153). -/
def HeatPhase.delivered (h : HeatPhase) : Nat := min h.book ((h.elapsed - h.preheat * 100) / 100)

/-- The end of the time a heat phase heats, by its end or a suspension: the portion is credited, the bar
is WARM, the share is released (R152, R153, R159). -/
def State.endHeat (portion : Nat) (s : State) : State :=
  let s1 := s.onAtWork (ZoneRecord.onBook (s.credited portion))
  State.giveUp
    { s1.warmBar with
      work.heat := none
      work.book.credited := s.work.book.credited + portion }

/-- The suspend timer reaches max suspend (R161). -/
def State.suspendExpired (s : State) : State :=
  let s1 := s.markAtWork .dwellBroken
  State.log .dwellBroken s.workTag .none
    (State.latch .dwellBroken
      { s1 with work.suspendLeft := none, work.book.suspendReached := true })

/-- The guard opens in HEAT: the phase is suspended (R159); a max suspend of 0 expires at once. -/
def State.suspend (h : HeatPhase) (s : State) : State :=
  let portion := h.delivered
  (s.endHeat portion).andThen fun t =>
    let t1 := State.log .heatSuspended t.workTag (.value portion)
      { t with work.press := .suspended, work.suspendLeft := some t.maxSuspendMs }
    if t.maxSuspendMs = 0 then t1.suspendExpired else t1

/-- What the press work does when the guard opens (R159, R162, R142). -/
def State.pressGuardOpens (s : State) : State :=
  match s.work.heat with
  | some h => if s.work.press = .heat then s.suspend h else s
  | none => if s.heat.burst.isSome then s.endBurst else s

/-- What the press work does when the guard closes in SUSPENDED (R160, R161). -/
def State.closeSuspended (z : ZoneRecord) (s : State) : State :=
  let remainder := s.work.book.allowance - s.work.book.credited
  if s.work.book.suspendReached ∨ z.book.verdict = .reject then s.finishPress
  else
    let s1 := State.log .heatResumed z.book.tag (.value remainder)
      { s with work.suspendLeft := none }
    if z.book.pressed ∨ remainder = 0 then s1.enterSet
    else State.askBook { s1 with work.press := .waitShare, work.book.resumed := true }

/-- What the press work does when the guard closes (R160 to R162, R151, R141). -/
def State.pressGuardCloses (s : State) : State :=
  match s.work.press with
  | .suspended =>
    match s.atWork? with
    | none => s
    | some z => s.closeSuspended z
  | .waitShare =>
    if s.work.book.returned then State.askBook { s with work.book.returned := false } else s
  | .idle => s.judgeKeepwarm
  | .heat | .set => s

end Sys2Proof.Machine
end

