-- ==== Sys2Proof/Machine/Work.lean ====
section
/-! DEFINITION. The role's work on the record that becomes AT_WORK (R67), and the abandoning of that work
when the record is purged (R74, R123, R177). -/

namespace Sys2Proof.Machine

/-- Begin the role's work on the record at the work point (R67). -/
def State.beginWork (s : State) : State :=
  match s.atWork?, s.role with
  | some z, some .infeed => s.judgeInfeed z
  | some z, some .case => s.judgeCase z
  | some z, some .press => s.judgePress z
  | some z, some .jacket => s.judgeJacket z
  | some z, some .gate => s.judgeGate z
  | _, _ => s

/-- Abandon the work on a purged AT_WORK record: at INFEED its read window ends (R13), at CASE and JACKET
a cycle in progress runs on without a record (R123), at GATE the divert ends (R177). Housekeeping is not
judged at a purge, which R120 does not name among the changes that judge it: the model's choice (log
entry 42). -/
def State.abandonWork (s : State) : State :=
  match s.role with
  | some .infeed => { s with rd.window := none }
  | some .case | some .jacket =>
    { s with
      work.parts := .idle
      work.matchIndex := none
      work.cycle := s.work.cycle.map fun c => { c with owned := false } }
  | some .gate => { s with work.divert := none }
  | some .press | none => s

end Sys2Proof.Machine
end

