-- ==== Sys2Proof/Machine/Conveyor.lean ====
section
/-! DEFINITION. Encoder counts, eye edges and distances (chapter 4), the feed and confirm eyes (R107, R173,
R176), and the cycle-done input and cycle timeouts (R117 to R119). They are taken in RUNNING only. -/

namespace Sys2Proof.Machine

/-- An eye edge with no record to act on: 1 ENTRY, 2 WORK, 3 EXIT (R65, R67, R72, 12.2). -/
def State.eyeOrder (eye : Nat) (s : State) : State := s.log .eyeOrder 0 (.value eye)

/-! ### The encoder -/

/-- One encoder count advances every distance quantity (R56). -/
def State.count (s : State) : State :=
  { s with
    zt.lengthCount :=
      if s.zt.zone.any ZoneRecord.counting then s.zt.lengthCount + 1 else s.zt.lengthCount
    zt.zone := s.zt.zone.map fun z => { z with adoption := z.adoption.map (· - 1) }
    zt.incoming := s.zt.incoming.map fun r => { r with transit := r.transit - 1 }
    work.divert := s.work.divert.map (· - 1) }

/-- ENCODER COUNT (R56). -/
def execEncoderCount (s : State) : Result := .next (if s.isRunning then s.count else s)

/-! ### The entry eye -/

/-- The zone list holds 8 records (R57). -/
def State.zoneFull (s : State) : Bool := decide (Config.zoneCap ≤ s.zt.zone.length)

/-- An item that finds no place: ZONE_OVERRUN and RECORD_DROPPED with no record leaving (R60, R68). -/
def State.overrunNoRecord (s : State) : State :=
  (s.log .zoneOverrun 0 .none).latch .recordDropped

/-- An entry edge at INFEED (R14, R60). -/
def State.entryInfeed (s : State) : State :=
  if s.zoneFull then s.overrunNoRecord
  else
    State.judgeRoom <|
      State.enterZone (ZoneRecord.fresh (BookRecord.created s.zt.tagCounter) .entering true)
        { s with zt.tagCounter := nextTag s.zt.tagCounter }

/-- An entry edge that finds 8 records: the incoming head is dropped (R60). -/
def State.entryOverrun (s : State) : State :=
  match s.zt.incoming with
  | [] => s.overrunNoRecord
  | r :: rest =>
    (State.drop .zoneOverrun .none r.book { s with zt.incoming := rest }).andThen State.judgeRoom

/-- A provisional record is created (R61); with an adoption distance of 0 it is anonymous at once. -/
def State.provisional (s : State) : State :=
  let z := ZoneRecord.fresh (BookRecord.created 0) .entering true
  let s1 :=
    if s.adoptionCounts = 0 then (s.enterZone (z.unknown s.own)).arrivalUnknown
    else s.enterZone { z with adoption := some s.adoptionCounts }
  s1.judgeRoom.andThen State.judgeKeepwarm

/-- An entry edge at a station other than INFEED (R59). -/
def State.entryOther (s : State) : State :=
  if s.zoneFull then s.entryOverrun
  else
    match s.zt.incoming with
    | [] => s.provisional
    | r :: rest =>
      State.enterZone { ZoneRecord.fresh r.book .entering true with step := r.step }
        { s with zt.incoming := rest }

/-- The entry leading edge (R14, R59). -/
def State.entryLeading (s : State) : State :=
  let s1 := { s with zt.eyes.entry := true }
  if s.role = some .infeed then s1.entryInfeed else s1.entryOther

/-- ENTRY LEADING EDGE (R59). -/
def execEntryLeadingEdge (s : State) : Result :=
  .next (if s.isRunning then s.entryLeading else s)

/-- The measured length is stored in the record whose count runs, and checked (R65, R66). -/
def State.storeLength (z : ZoneRecord) (s : State) : State :=
  let mm := s.measured s.zt.lengthCount
  let fails := s.lengthFails z.book mm
  let stored := { z.book with length := some mm }
  let book := if fails then stored.addMark .length s.own else stored
  let s1 : State :=
    { s with
      zt.zone := mapFirst ZoneRecord.counting
        (fun y => { y with book := book, counting := false }) s.zt.zone }
  if fails then
    let s2 := s1.lengthFault z.book.tag mm
    if z.phase = .atWork then s2.afterMark else s2
  else s1

/-- The entry trailing edge (R65). -/
def State.entryTrailing (s : State) : State :=
  let s1 := { s with zt.eyes.entry := false }
  match s.zt.zone.find? ZoneRecord.counting with
  | some z => s1.storeLength z
  | none => s1.eyeOrder 1

/-- ENTRY TRAILING EDGE (R65). -/
def execEntryTrailingEdge (s : State) : Result :=
  .next (if s.isRunning then s.entryTrailing else s)

/-! ### Distances -/

/-- ADOPTION DISTANCE EXPIRY (R61): the oldest adoptable record becomes anonymous. -/
def execAdoptionDistanceExpiry (s : State) : Result :=
  .next (if s.isRunning ∧ s.zt.zone.any ZoneRecord.adoptable then s.oldestUnknown else s)

/-- The incoming head goes missing (R64). -/
def State.goMissing (s : State) : State :=
  match s.zt.incoming with
  | [] => s
  | r :: rest =>
    State.depart .missing .none r.book
      (State.latch .recordMissing { s with zt.incoming := rest })

/-- TRANSIT DISTANCE EXPIRY (R64). -/
def execTransitDistanceExpiry (s : State) : Result :=
  .next (if s.isRunning then s.goMissing else s)

/-! ### The work point -/

/-- A record becomes AT_WORK. -/
def ZoneRecord.toWork (z : ZoneRecord) : ZoneRecord := { z with phase := .atWork }

/-- A record is ENTERING. -/
def ZoneRecord.isEntering (z : ZoneRecord) : Bool := z.phase == .entering

/-- The oldest ENTERING record goes to work; one still adoptable first becomes anonymous (R67). -/
def State.placeAtWork (z : ZoneRecord) (s : State) : State :=
  let known (y : ZoneRecord) : ZoneRecord := if y.adoptable then y.unknown s.own else y
  let s1 : State :=
    { s with
      zt.zone := mapFirst ZoneRecord.isEntering (fun y => (known y).toWork) s.zt.zone }
  (if z.adoptable then s1.arrivalUnknown else s1).beginWork

/-- An unexpected item at the work eye (R68): the record is created, which changes the room (R84), and its
work begins. ROOM is judged before the work, which may queue a keep-warm claim (log entry 11). -/
def State.unexpected (s : State) : State :=
  if s.zoneFull then s.overrunNoRecord
  else
    let z := (ZoneRecord.fresh (BookRecord.created 0) .atWork false).unknown s.own
    let s1 : State := { s with zt.zone := s.zt.zone ++ [z] }
    s1.arrivalUnknown.judgeRoom.andThen State.beginWork

/-- The work leading edge (R67, R68). -/
def State.workLeading (s : State) : State :=
  let s1 := { s with zt.eyes.work := true }
  if s.atWork?.isSome then s1.eyeOrder 2
  else
    match s.zt.zone.find? ZoneRecord.isEntering with
    | some z => s1.placeAtWork z
    | none => s1.unexpected

/-- An edge of an input, taken in RUNNING: the named edge acts, the opposite edge only updates the filtered
level (R54, R55, R117, R176; log entry 6). -/
def State.onEdge (edge : InputEdge) (acts updates : State → State) (s : State) : State :=
  if s.isRunning then
    match edge with
    | .named => acts s
    | .opposite => updates s
  else s

/-- WORK LEADING EDGE (R67); the opposite edge is the work trailing edge (R54). -/
def execWorkLeadingEdge (s : State) (edge : InputEdge := .named) : Result :=
  .next (s.onEdge edge State.workLeading fun t => { t with zt.eyes.work := false })

/-! ### The exit eye -/

/-- The head is retired at the END station (R71). -/
def State.retire (z : ZoneRecord) (rest : List ZoneRecord) (s : State) : State :=
  State.depart .retired .none z.book
    { s with zt.zone := rest, port.retired := s.port.retired + 1 }

/-- The head departs to the downstream peer, or is dropped where there is none (R70, R80). -/
def State.handOn (z : ZoneRecord) (rest : List ZoneRecord) (s : State) : State :=
  let s1 : State := { s with zt.zone := rest }
  State.andThen
    (match s.peer with
     | some p => s1.queue (.handover p z.book z.step)
     | none => s1.drop .noPeer .none z.book)
    State.judgeRoom

/-- The exit trailing edge (R70 to R72). -/
def State.exitTrailing (s : State) : State :=
  let s1 := { s with zt.eyes.exit := false }
  match s.zt.zone with
  | [] => s1.eyeOrder 3
  | z :: rest =>
    if z.phase ≠ .worked then s1.eyeOrder 3
    else if s.params.straps.isEnd then s1.retire z rest
    else s1.handOn z rest

/-- EXIT TRAILING EDGE (R70); the opposite edge is the exit leading edge (R54). -/
def execExitTrailingEdge (s : State) (edge : InputEdge := .named) : Result :=
  .next (s.onEdge edge State.exitTrailing fun t => { t with zt.eyes.exit := true })

/-! ### The fourth eye -/

/-- The fourth eye is clear: its trailing edge (R55, R176). -/
def State.fourthClear (s : State) : State := { s with zt.eyes.fourth := false }

/-- FEED EYE LEADING EDGE (R107), at CASE and JACKET; the opposite edge is its trailing edge (R55). -/
def execFeedEyeLeadingEdge (s : State) (edge : InputEdge := .named) : Result :=
  .next <|
    if s.hasMagazine then
      s.onEdge edge (fun t => State.partArrives { t with zt.eyes.fourth := true }) State.fourthClear
    else s

/-- The confirm eye sees an item: the divert is confirmed, or the edge is a stray (R173, R176). -/
def State.confirmEdge (s : State) : State :=
  match s.work.divert, s.atWork? with
  | some _, some z => s.confirmDivert z
  | _, _ => s.log .strayDivert ((s.zt.zone.head?.map fun z => z.book.tag).getD 0) .none

/-- CONFIRM EYE LEADING EDGE (R173, R176), at GATE; the opposite edge is its trailing edge (R176). -/
def execConfirmEyeLeadingEdge (s : State) (edge : InputEdge := .named) : Result :=
  .next <|
    if s.role = some .gate then
      s.onEdge edge (fun t => State.confirmEdge { t with zt.eyes.fourth := true }) State.fourthClear
    else s

/-- CONFIRM DISTANCE EXPIRY (R174). -/
def execConfirmDistanceExpiry (s : State) : Result :=
  .next (if s.isRunning ∧ s.work.divert.isSome then s.failDivert else s)

/-! ### Cycles -/

/-- The cycle-done input turns on (R117). -/
def State.doneEdge (s : State) : State :=
  let s1 := { s with work.doneOn := true }
  match s.work.cycle with
  | some c => s1.cycleEnds c
  | none => s1.log .lateDone 0 .none

/-- CYCLE DONE (R117), at CASE and JACKET; the opposite edge is the input going off. -/
def execCycleDone (s : State) (edge : InputEdge := .named) : Result :=
  .next <|
    if s.hasMagazine then
      s.onEdge edge State.doneEdge fun t => { t with work.doneOn := false }
    else s

/-- A cycle of one kind reaches its timeout. -/
def State.cycleLimit (k : CycleKind) (f : Cycle → State → State) (s : State) : State :=
  match s.work.cycle with
  | some c => if s.isRunning ∧ c.kind = k then f c s else s
  | none => s

/-- CYCLE TIMEOUT (R118, R123, R167). -/
def execCycleTimeout (s : State) : Result := .next (s.cycleLimit .marry State.marryTimesOut)

/-- SKIP TIMEOUT (R119, R123). -/
def execSkipTimeout (s : State) : Result := .next (s.cycleLimit .skip State.skipTimesOut)

end Sys2Proof.Machine
end

