-- ==== Sys2Proof/WellFormed.lean ====
section
/-! DEFINITION. Which commands are well formed: the checks on operands that the operand types do not
make. A well-formed command is one the outside can give; `exec` answers on the others as well. -/

namespace Sys2Proof

/-- A port command as 12.2 lists it: its code, its number of argument bytes, and whether it is a
read command (R179). -/
structure PortCommand where
  code : Byte
  arguments : Nat
  isRead : Bool
  deriving DecidableEq, Repr

/-- The seventeen port commands (12.2). -/
def portCommands : List PortCommand :=
  [⟨0x01, 0, true⟩, ⟨0x02, 1, true⟩, ⟨0x03, 0, true⟩, ⟨0x04, 4, false⟩, ⟨0x05, 0, true⟩,
   ⟨0x06, 2, true⟩, ⟨0x07, 1, true⟩, ⟨0x10, 3, false⟩, ⟨0x11, 9, false⟩, ⟨0x12, 0, false⟩,
   ⟨0x13, 1, false⟩, ⟨0x14, 2, false⟩, ⟨0x15, 0, false⟩, ⟨0x16, 0, false⟩, ⟨0x17, 0, false⟩,
   ⟨0x18, 0, false⟩, ⟨0x1F, 0, false⟩]

/-- Whether the whole bytes of a transaction are framed as their command asks (R179): a known command
byte, no fewer argument bytes than it has, and no more unless it is a read. -/
def bytesFramed (bytes : List Byte) : Bool :=
  match bytes with
  | [] => true
  | code :: rest =>
    match portCommands.find? (fun c => c.code == code) with
    | none => false
    | some c => c.arguments ≤ rest.length && (c.isRead || rest.length == c.arguments)

/-- A transaction that R179 discards with FRAME: select released within a byte, or the bytes badly
framed. -/
def transactionBroken (bytes : List Byte) (extraBits : Nat) : Bool :=
  extraBits < 8 && (extraBits != 0 || !bytesFramed bytes)

/-- The payload lengths that make a BEACON's kind known (12.1). -/
def beaconLengthKnown (n : Nat) : Bool := n == 13 || (15 ≤ n && n ≤ 30)

/-- A place within the capacity of its list (R57). -/
def placeInRange : RecordPlace → Bool
  | .zone i => i < Config.zoneCap
  | .incoming i => i < Config.incomingCap

/-- The well-formedness of a command. -/
def Instr.wellFormed : Instr → Bool
  | .transactionFrame bytes extraBits => transactionBroken bytes extraBits
  | .beacon _ payload => beaconLengthKnown payload.length
  | .idFrame bytes => 1 ≤ bytes.length && bytes.length ≤ 8
  | .openTimeExpiry place => placeInRange place
  | .powerOn _ | .resetPin _ | .status _ _ | .watch _ _ | .readLatches _ _ | .writeEnables _ _
  | .readJournal _ _ | .readRecord _ _ _ _ | .readMagazine _ _ _ | .writeParameter _ _
  | .writeFormat _ _ | .join | .mark _ | .purge _ | .magazineClear | .stop | .go | .drain
  | .reset _ | .frameStart _ _ | .readbackMismatch | .structureError _ | .flaggedFrame _
  | .stopNotice _ _ | .goNotice _ | .absent _ _ | .claim _ _ | .release _ | .withdraw _
  | .handover _ _ _ | .room _ _ | .void _ _ _ _ | .joinNotice _ _ _ | .silenceTimerExpiry _
  | .joinWindowEnd _ | .beaconTimerExpiry | .readerGapTimeout | .readWindowExpiry
  | .encoderCount | .entryLeadingEdge | .entryTrailingEdge | .adoptionDistanceExpiry
  | .transitDistanceExpiry | .workLeadingEdge _ | .exitTrailingEdge _ | .feedEyeLeadingEdge _
  | .cycleDone _ | .cycleTimeout | .skipTimeout | .holdOffExpiry | .claimWaitLimit
  | .keepwarmDue | .warmTimerExpiry | .burstEnd | .heatPhaseEnd | .setEnd
  | .maxSuspendExpiry | .guardOpens | .guardCloses | .confirmEyeLeadingEdge _
  | .confirmDistanceExpiry => true

end Sys2Proof
end

