-- ==== Sys2Proof/Machine/Frame.lean ====
section
/-! DEFINITION. A frame on the wire (R18, R19): its fields, its check, the inserted bits, and the judgement
a receiver makes of the levels it reads (R23), with the command that judgement gives. A level is `false`
for dominant and `true` for recessive, so that a sent 0 bit is dominant and the lowest field wins. -/

namespace Sys2Proof.Machine

/-- A notice kind from its class and kind code, if known (12.1). -/
def NoticeKind.ofCode (cls code : Nat) : Option NoticeKind :=
  if cls = 0 then
    if code = 0 then some .stop else if code = 1 then some .go
    else if code = 2 then some .absent else none
  else if cls = 1 then
    if code = 0 then some .claim else if code = 1 then some .release
    else if code = 2 then some .withdraw else none
  else if cls = 2 then
    if code = 0 then some .handover else if code = 1 then some .room
    else if code = 2 then some .void else none
  else if code = 0 then some .join else if code = 1 then some .beacon else none

/-- The command that a good frame of a kind, sender and payload gives; none where the payload length is
not one that makes the kind known (R23, 12.1). -/
def readNotice (kind : NoticeKind) (sender : Pos) (payload : List Byte) : Option Instr :=
  match kind, payload with
  | .stop, [r] => some (.stopNotice sender r)
  | .go, [] => some (.goNotice sender)
  | .absent, [p] => some (.absent sender p)
  | .claim, [c] => some (.claim sender c)
  | .release, [] => some (.release sender)
  | .withdraw, [] => some (.withdraw sender)
  | .handover, target :: image =>
    if h : image.length = 24 then
      some (.handover sender target ⟨image.toArray, by simpa using h⟩)
    else none
  | .room, [r] => some (.room sender r)
  | .void, [k0, k1, k2, f, l] => some (.void sender (word3 k0 k1 k2) f l)
  | .join, [role, d0, d1] => some (.joinNotice sender role (word2 d0 d1))
  | .beacon, bytes =>
    if beaconLengthKnown bytes.length then some (.beacon sender bytes) else none
  | _, _ => none

/-! ### The bits of a frame -/

/-- A number in `w` bits, most significant first. -/
def natBits (w n : Nat) : List Bool := (List.range w).map fun i => n.testBit (w - 1 - i)

/-- The number that bits give, most significant first. -/
def bitsNat (l : List Bool) : Nat := l.foldl (fun n b => 2 * n + b.toNat) 0

/-- The fields the check covers: class, sender position, kind, payload length, payload (R18). -/
def fieldBits (cls sender code : Nat) (payload : List Byte) : List Bool :=
  natBits 2 cls ++ natBits 4 sender ++ natBits 4 code ++ natBits 6 payload.length
    ++ payload.flatMap byteBits

/-- The bits from start through check, before any is inserted (R18). -/
def frameBits (cls sender code : Nat) (payload : List Byte) : List Bool :=
  let fields := fieldBits cls sender code payload
  false :: fields ++ natBits 16 (checkOf fields).toNat

/-- The length in bits of a run of equal levels after a further level. -/
def runAfter (run : Option (Bool × Nat)) (b : Bool) : Nat :=
  match run with
  | some (level, n) => if level = b then n + 1 else 1
  | none => 1

/-- Insert one bit of the opposite level after every run of four equal frame bits (R19). -/
def insertFrom (run : Option (Bool × Nat)) : List Bool → List Bool
  | [] => []
  | b :: rest =>
    if runAfter run b = 4 then b :: (!b) :: insertFrom none rest
    else b :: insertFrom (some (b, runAfter run b)) rest

/-- The inserted region of a frame as driven. -/
def insertBits (bits : List Bool) : List Bool := insertFrom none bits

/-- Remove inserted bits as a receiver does: the frame bits read so far, and whether a structure error
ended them (R19). -/
def removeFrom (run : Option (Bool × Nat)) : List Bool → List Bool × Bool
  | [] => ([], false)
  | b :: rest =>
    match run with
    | some (level, 4) => if b = level then ([], true) else removeFrom none rest
    | _ =>
      let r := removeFrom (some (b, runAfter run b)) rest
      (b :: r.1, r.2)

/-- The frame bits of an inserted region, and whether it holds a structure error. -/
def removeBits (region : List Bool) : List Bool × Bool := removeFrom none region

/-- The whole frame as driven: the inserted region, the recessive flag slot and the end field (R18). -/
def wireImage (cls sender code : Nat) (payload : List Byte) : List Bool :=
  insertBits (frameBits cls sender code payload) ++ List.replicate 8 true

/-! ### The judgement of a receiver (R23) -/

/-- What a receiver finds in the inserted region of a frame. -/
inductive Judgement where
  | structureError
  | length (sender : Pos)
  | check (sender : Pos)
  | kind (sender : Pos)
  | incomplete
  | good (command : Instr)
  deriving DecidableEq, Repr

/-- A position from the number of its four bits. -/
def posOfNat (n : Nat) : Pos := ⟨n % 16, Nat.mod_lt _ (by decide)⟩

/-- The bytes of a bit list, eight bits each. -/
def bytesOf (n : Nat) (bits : List Bool) : List Byte :=
  (List.range n).map fun i => nat1 (bitsNat ((bits.drop (8 * i)).take 8))

/-- The field of `w` bits that begins at bit `i` of a frame, the start bit being bit 0. -/
def field (bits : List Bool) (i w : Nat) : Nat := bitsNat ((bits.drop i).take w)

/-- Judge a frame whose inserted bits are removed and whose length is in range. Where the check disagrees and
the kind is unknown as well, both found at the last bit of the check, the fault is CHECK alone: the
model's choice (log entry 39). -/
def judgeBody (bits : List Bool) (sender : Pos) (n : Nat) : Judgement :=
  if bits.length ≠ 33 + 8 * n then .incomplete
  else if (checkOf ((bits.drop 1).take (16 + 8 * n))).toNat ≠ field bits (17 + 8 * n) 16 then
    .check sender
  else
    match NoticeKind.ofCode (field bits 1 2) (field bits 7 4) with
    | none => .kind sender
    | some k =>
      match readNotice k sender (bytesOf n (bits.drop 17)) with
      | none => .kind sender
      | some i => .good i

/-- A check fault or an unknown kind, which a receiver finds at the last bit of the check. -/
def Judgement.atCheck : Judgement → Bool
  | .check _ | .kind _ => true
  | .structureError | .length _ | .incomplete | .good _ => false

/-- Judge the inserted region of a frame (R23): a fault is found where it stands, and the first decides. So a
payload length above 32 comes before anything that follows it, and a check fault or an unknown kind
before a structure error in the bit inserted after the last bit of the check (log entry 39). -/
def judge (region : List Bool) : Judgement :=
  let bits := (removeBits region).1
  let sender := posOfNat (field bits 3 4)
  let n := field bits 11 6
  if 17 ≤ bits.length ∧ 32 < n then .length sender
  else if (removeBits region).2 ∧ (judgeBody bits sender n).atCheck = false then .structureError
  else judgeBody bits sender n

/-- The command a receiver's judgement gives; a frame not yet complete gives none. -/
def Judgement.command : Judgement → Option Instr
  | .structureError => some (.structureError .insertion)
  | .length p => some (.structureError (.length p))
  | .check p => some (.flaggedFrame (.check p))
  | .kind p => some (.flaggedFrame (.kind p))
  | .incomplete => none
  | .good i => some i

end Sys2Proof.Machine
end

