-- ==== Sys2Proof/Machine/Bus.lean ====
section
/-! DEFINITION. The Line Bus Controller's frame events (chapter 2): beginning a frame, arbitration, and the
failures of frames. -/

namespace Sys2Proof.Machine

/-- What a BEACON of this station carries now (R45). -/
def State.beaconContent (s : State) : BeaconContent :=
  { roleCode := s.params.straps.role.toNat
    room := s.zt.roomOpen
    digest := s.params.digest
    stops := s.mem.stopSet
    shares := if s.role = some .press then some (s.heat.holders, s.heat.waits) else none }

/-- The payload of a queued notice as its start bit begins (12.1, R33, R81). -/
def State.payload (s : State) : Notice → List Byte
  | .stop r => [nat1 r.toNat]
  | .go | .release | .withdraw => []
  | .absent p => [byteOfPos p]
  | .claim c => [nat1 (bitAt 0 (c == .book))]
  | .handover target b step =>
    byteOfPos target :: recordImage b (openTimeShown b.openTime step)
  | .room o => [nat1 (bitAt 0 o)]
  | .void k f lacksCase lacksJacket =>
    bytes3 k ++ [formatByte f, nat1 (bitAt 0 lacksCase + bitAt 1 lacksJacket)]
  | .join role digest => nat1 role.toNat :: bytes2 digest
  | .beacon => beaconBytes s.beaconContent

/-- A queued notice is of a class. -/
def TxEntry.ofClass (c : Nat) (e : TxEntry) : Bool := e.notice.kind.cls == c

/-- The place of the first notice that may be sent (R28, R29): the JOIN while it has not been applied,
else the lowest class first and within a class the oldest. -/
def State.eligible (s : State) : Option Nat :=
  let q := s.bus.txq
  if s.awaitingJoin then q.findIdx? fun e => e.notice.kind == .join
  else
    q.findIdx? (TxEntry.ofClass 0) <|> q.findIdx? (TxEntry.ofClass 1)
      <|> q.findIdx? (TxEntry.ofClass 2) <|> q.findIdx? (TxEntry.ofClass 3)

/-- The value of an arbitration field: class, then sender position (R21). -/
def arbitration (cls : Nat) (p : Pos) : Nat := cls * 16 + p.val

/-- Another station that begins in the same bit time has the lower arbitration field (R21). -/
def rivalWins (cls : Nat) (p : Pos) (r : Rival) : Bool :=
  decide (arbitration r.cls.toNat r.sender < arbitration cls p)

/-- Begin the frame of the notice at a place of the queue (R20): its contents are taken at the start bit,
a BEACON's room standing becomes the one last announced (R85), and arbitration settles whether this
station goes on or loses to the rival at a later bit (R21). -/
def State.beginFrame (place : Nat) (n : Notice) (rival : Option Rival) (s : State) : State :=
  let s1 := if n.kind = .beacon then { s with zt.announced := some s.zt.roomOpen } else s
  match rival.filter (rivalWins n.kind.cls s.own) with
  | some r => { s1 with bus.frame := .losing place n.kind r }
  | none => { s1 with bus.frame := .sending place n.kind (s.payload n) }

/-- The count of recessive bit times after `n` more, up to the quiet gap (R20). -/
def LineBus.quietAfter (n : Nat) (b : LineBus) : Nat := min Config.quietGap (b.quiet + n)

/-- The first eligible notice with its place in the queue (R28, R29). -/
def State.toSend (s : State) : Option (Nat × Notice) :=
  s.eligible.bind fun k => (s.bus.txq[k]?).map fun e => (k, e.notice)

/-- A start bit while the bus is quiet (R20, R21): the first eligible notice is begun, `rival` being the
lowest arbitration field among the other stations that begin; with none eligible, a rival's frame is
received. With neither no frame begins. -/
def State.startFrame (rival : Option Rival) (s : State) : State :=
  match s.toSend with
  | some (k, n) => State.beginFrame k n rival { s with bus.quiet := 0 }
  | none => if rival.isSome then { s with bus.frame := .receiving, bus.quiet := 0 } else s

/-- FRAME START (R20, R21), with no frame in progress: `recessive` more recessive bit times have been read.
Once the count has reached the quiet gap a frame is begun; before that a dominant level, a rival's, is
not taken as a start and sets the count back to 0. What the controller drove for the frame before has
ended (R22, R23). -/
def execFrameStart (rival : Option Rival) (s : State) (recessive : Nat := Config.quietGap) : Result :=
  .next <|
    if ¬ s.bus.attached ∨ s.bus.frame ≠ .none then s
    else
      let q := s.bus.quietAfter recessive
      let s1 : State := { s with bus.quiet := q, bus.drive := .none }
      if q < Config.quietGap then { s1 with bus.quiet := if rival.isSome then 0 else q }
      else s1.startFrame rival

/-- A frame has ended at this station: none is in progress, the quiet gap is counted afresh (R20), and `d` is
what the controller drives for it. -/
def State.endFrame (d : Drive) (s : State) : State :=
  { s with bus.frame := .none, bus.quiet := 0, bus.drive := d }

/-- A failure of the notice at a place of the queue (R25): its count grows, SEND_FAILED is journalled, and
the eighth failure halts the station with BUS_FAULT, what it drives having ended by then (log entry 8). The
entry has tag 0 for a HANDOVER too: the model's choice (log entry 20). -/
def State.failSend (d : Drive) (place : Nat) (e : TxEntry) (s : State) : State :=
  let count := e.failures + 1
  let s1 := State.log .sendFailed 0 (.pair e.notice.kind.detailCode count)
    { s.endFrame d with bus.txq := s.bus.txq.set place { e with failures := count } }
  if Config.failureLimit ≤ count then s1.halt .busFault else s1

/-- The frame this station sends has failed, and it drives `d`. -/
def State.failFrame (d : Drive) (place : Nat) (s : State) : State :=
  match s.bus.txq[place]? with
  | some e => s.failSend d place e
  | none => s.endFrame d

/-- READBACK MISMATCH (R22): the sender stops its frame, drives an abort run and counts one failure. A station
that will lose arbitration is a sender up to its losing bit, and the mismatch falls on its start bit or an
arbitration bit before that one (log entry 55). -/
def execReadbackMismatch (s : State) : Result :=
  .next <|
    match s.bus.frame with
    | .sending place _ _ | .losing place _ _ => s.failFrame .abortRun place
    | .none | .receiving => s

/-- This station receives the frame in progress: from its start, or from its losing bit on (R21, R23). -/
def Frame.received : Frame → Bool
  | .receiving | .losing _ _ _ => true
  | .none | .sending _ _ _ => false

/-- The journal entry of a faulty frame (R23): CHECK 1, LENGTH 2, KIND 3 with the sender (12.2). -/
def State.badFrame (fault : Nat) (sender : Pos) (s : State) : State :=
  s.log .badFrame 0 (.pair fault (posNumber sender))

/-- STRUCTURE ERROR (R23): a receiver drives an abort run and drops the frame; a length fault is journalled
BAD_FRAME. A frame whose start this station did not take does not concern it (R17, R20). -/
def execStructureError (cause : BreakCause) (s : State) : Result :=
  .next <|
    if s.bus.attached ∧ s.bus.frame.received then
      match cause with
      | .insertion => s.endFrame .abortRun
      | .length sender => (s.endFrame .abortRun).badFrame 2 sender
    else s

/-- FLAGGED FRAME (R23, R24): applied by no station; the sender counts a failure, a receiver that found
the fault drives the flag slot dominant and journals BAD_FRAME. A frame whose start this station did not
take does not concern it (R17, R20). -/
def execFlaggedFrame (cause : FlagCause) (s : State) : Result :=
  .next <|
    if ¬ s.bus.attached then s
    else
      match s.bus.frame with
      | .none => s
      | .sending place _ _ => s.failFrame .none place
      | .receiving | .losing _ _ _ =>
        match cause with
        | .check sender => (s.endFrame .flag).badFrame 1 sender
        | .kind sender => (s.endFrame .flag).badFrame 3 sender
        | .byOther => s.endFrame .none

/-- The start bit and arbitration field as driven (R18, R19, R21). -/
def arbitrationLevels (cls : Nat) (p : Pos) : List Bool :=
  insertBits (false :: natBits 2 cls ++ natBits 4 p.val)

/-- The number of levels in which two senders agree before they first differ. -/
def agreeing : List Bool → List Bool → Nat
  | a :: as, b :: bs => if a = b then agreeing as bs + 1 else 0
  | _, _ => 0

/-- What a sender drives that loses arbitration to a rival: its levels up to its losing bit, the first in which
the two differ (R21). -/
def losingLevels (cls : Nat) (p : Pos) (r : Rival) : List Bool :=
  let own := arbitrationLevels cls p
  own.take (agreeing own (arbitrationLevels r.cls.toNat r.sender) + 1)

/-- The levels this station drives, `false` for dominant: the frame it sends (R18, R19), or of one it loses the
levels up to its losing bit (R21); an abort run of six dominant bit times (R22, R23), or a dominant flag
slot (R23); nothing otherwise. -/
def State.drivenLevels (s : State) : List Bool :=
  match s.bus.frame, s.bus.drive with
  | .sending _ k p, _ => wireImage k.cls s.own.val k.code p
  | .losing _ k r, _ => losingLevels k.cls s.own r
  | _, .abortRun => List.replicate 6 false
  | _, .flag => [false]
  | _, .none => []

end Sys2Proof.Machine
end

