-- ==== Sys2Proof/Machine/Shares.lean ====
section
/-! DEFINITION. The share table (R127 to R132): holders kept as the ascending list of positions, so that
equal sets are equal data, and what the applications of class-1 notices and absences do to it and to
the station's own claim. -/

namespace Sys2Proof.Machine

/-- A position joins the holders. -/
def addHolder (p : Pos) (holders : List Pos) : List Pos :=
  (List.finRange 16).filter fun q => q == p || holders.contains q

/-- A position leaves the holders. -/
def dropHolder (p : Pos) (holders : List Pos) : List Pos := holders.filter fun q => q != p

/-- A position leaves the wait list. -/
def dropWaiting (p : Pos) (waits : List WaitEntry) : List WaitEntry :=
  waits.filter fun e => e.position != p

/-- A position has an entry in the wait list. -/
def isWaiting (p : Pos) (waits : List WaitEntry) : Bool := waits.any fun e => e.position == p

/-- A share table after grants, with the positions granted. -/
structure Granted where
  holders : List Pos
  waits : List WaitEntry
  positions : List Pos
  deriving DecidableEq, Repr

/-- Grants follow (R129): while fewer than `budget` hold and the wait list is non-empty, its head becomes
a holder. -/
def grantsFollow (budget : Nat) (holders : List Pos) : List WaitEntry → Granted
  | [] => ⟨holders, [], []⟩
  | e :: rest =>
    if holders.length < budget then
      let g := grantsFollow budget (addHolder e.position holders) rest
      { g with positions := e.position :: g.positions }
    else ⟨holders, e :: rest, []⟩

/-- Put a table after grants in place; a grant to the station's own position is the grant event (R132). -/
def State.applyGrants (g : Granted) (s : State) : State :=
  let s1 := { s with heat.holders := g.holders, heat.waits := g.waits }
  if g.positions.contains s.own then s1.grantEvent else s1

/-- A holder leaves the table and grants follow (R129). -/
def State.releaseHolder (p : Pos) (s : State) : State :=
  s.applyGrants (grantsFollow s.heatBudget (dropHolder p s.heat.holders) s.heat.waits)

/-- A position is removed from the share table by its absence (R131). -/
def State.removeShares (p : Pos) (s : State) : State :=
  let s1 := { s with heat.waits := dropWaiting p s.heat.waits }
  if s.heat.holders.contains p then s1.releaseHolder p else s1

/-- The class of a CLAIM's payload byte (12.1). -/
def classOf (b : Byte) : ClaimClass := if b.getLsbD 0 then .book else .keepwarm

/-- A KEEPWARM entry of the wait list. -/
def WaitEntry.isKeepwarm (w : WaitEntry) : Bool := w.cls == .keepwarm

/-- An entry inserted after the last KEEPWARM entry of the wait list, or at its head if it holds none (R128),
wherever that entry stands: an adopted snapshot may hold one behind a BOOK entry (log entry 27). -/
def afterKeepwarm (e : WaitEntry) : List WaitEntry → List WaitEntry
  | [] => [e]
  | w :: rest =>
    if (w :: rest).any WaitEntry.isKeepwarm then w :: afterKeepwarm e rest else e :: w :: rest

/-- A claim placed in the wait list: KEEPWARM after the last KEEPWARM entry, BOOK at the tail (R128). -/
def placeWaiting (e : WaitEntry) (waits : List WaitEntry) : List WaitEntry :=
  match e.cls with
  | .book => waits ++ [e]
  | .keepwarm => afterKeepwarm e waits

/-- Another position's claim has taken its place: a running hold-off ends (R136). -/
def State.peerClaimed (s : State) : State := if s.heat.holdOff.isSome then s.endHoldOff else s

/-- The own CLAIM found its position in the table already: the state follows where it stands (R133). A claim
RETURNING stays RETURNING, as R133's row has it against its closing sentence (log entry 19). -/
def State.ownClaimFound (s : State) : State :=
  if s.heat.claim = .queued then
    { s with heat.claim := if s.heat.holders.contains s.own then .holding else .waiting }
  else s

/-- The own CLAIM was placed in the wait list: WAITING, with its claim-wait timer (R133, R137). -/
def State.ownClaimWaits (s : State) : State :=
  if s.heat.claim = .queued then
    { s with heat.claim := .waiting, heat.claimWait := some s.claimWaitMs }
  else s

/-- PROTOCOL with a position and a notice kind (R128, R145). -/
def State.protocol (p : Pos) (k : NoticeKind) (s : State) : State :=
  s.log .protocol 0 (.pair (posNumber p) k.detailCode)

/-- A CLAIM applied (R128). -/
def State.applyClaim (p : Pos) (c : ClaimClass) (s : State) : State :=
  if s.heat.holders.contains p ∨ isWaiting p s.heat.waits then
    let s1 := s.protocol p .claim
    if p = s.own then s1.ownClaimFound else s1
  else if s.heat.holders.length < s.heatBudget ∧ s.heat.waits = [] then
    let s1 := { s with heat.holders := addHolder p s.heat.holders }
    if p = s.own then s1.grantEvent else s1.peerClaimed
  else
    let s1 := { s with heat.waits := placeWaiting ⟨p, c⟩ s.heat.waits }
    if p = s.own then s1.ownClaimWaits else s1.peerClaimed

/-- The station's own RELEASE, or its WITHDRAW as a holder, has been applied (R133, R136). -/
def State.ownReturn (p : Pos) (s : State) : State :=
  if p = s.own ∧ s.heat.claim = .returning then s.ownReleased else s

/-- A RELEASE applied (R129); the station's own brings its claim to NONE (log entry 25). -/
def State.applyRelease (p : Pos) (s : State) : State :=
  (if s.heat.holders.contains p then s.releaseHolder p else s).andThen (State.ownReturn p)

/-- A WITHDRAW applied (R130); the station's own brings its claim to NONE, with the hold-off when its
position was a holder (R133; log entry 25). -/
def State.applyWithdraw (p : Pos) (s : State) : State :=
  if isWaiting p s.heat.waits then
    let s1 := { s with heat.waits := dropWaiting p s.heat.waits }
    if p = s.own ∧ s.heat.claim = .returning then s1.claimNone else s1
  else if s.heat.holders.contains p then (s.releaseHolder p).andThen (State.ownReturn p)
  else if p = s.own ∧ s.heat.claim = .returning then s.claimNone
  else s

/-- A share snapshot differs from the table (R146). -/
def State.sharesDiffer (s : State) (holders : List Pos) (waits : List WaitEntry) : Bool :=
  s.heat.holders != holders || s.heat.waits != waits

/-- Compare a PRESS member's share snapshot (R146). -/
def State.compareShares (p : Pos) (holders : List Pos) (waits : List WaitEntry) (s : State) :
    State :=
  if s.sharesDiffer holders waits then
    (s.latch .tableDiverge).log .tableDiverge 0 (.value (posNumber p))
  else s

/-- Adopt a share snapshot in the join window (R43, R145). A snapshot that names the station's own
position makes its claim RETURNING and queues WITHDRAW. -/
def State.adoptShares (holders : List Pos) (waits : List WaitEntry) (s : State) : State :=
  let s1 : State :=
    { s with heat.holders := holders, heat.waits := waits, mem.shareAdopted := true }
  if holders.contains s.own ∨ isWaiting s.own waits then
    State.andThen
      (State.queue .withdraw { s1 with heat.claim := .returning, heat.use := .none })
      (State.protocol s.own .beacon)
  else s1

end Sys2Proof.Machine
end

