-- ==== Sys2Proof/Machine/Notices.lean ====
section
/-! DEFINITION. The application of notices (R26, R33): what every good frame does at this station before its
own effect, and the effect of each of the eleven kinds. -/

namespace Sys2Proof.Machine

/-! ### A good frame completes -/

/-- The place in the queue of the notice this station has sent in the frame that completes: the frame in
progress is its own and equals the completed one (R27; log entry 9). -/
def State.sentPlace (s : State) (sender : Pos) (kind : NoticeKind) (payload : List Byte) :
    Option Nat :=
  match s.bus.frame with
  | .sending place k p =>
    if sender = s.own ∧ k = kind ∧ p = payload then some place else none
  | .none | .receiving | .losing _ _ _ => none

/-- A good frame completes at the end of its end field (R26). A detached controller takes no part, and a
frame whose start this station did not take, having begun before its quiet gap, does not concern it (R17,
R20). The station's own notice leaves the queue and is applied; a frame of its own position that it did
not send is a position clash (R52); before the own JOIN nothing else is applied (R42).
R26 does not say whether the own notice leaves the queue before or after the effects of its application,
which may queue further notices and find the queue full: here it leaves before, the model's choice (log
entry 40). -/
def State.receive (sender : Pos) (kind : NoticeKind) (payload : List Byte)
    (effect : State → State) (s : State) : State :=
  if ¬ s.bus.attached ∨ s.bus.frame = .none then s
  else
    let ended := s.endFrame .none
    match s.sentPlace sender kind payload with
    | some place => effect { ended with bus.txq := s.bus.txq.eraseIdx place }
    | none =>
      if sender = s.own then ended.halt .positionClash
      else if s.awaitingJoin then ended
      else effect ended

/-! ### Hearing a member -/

/-- The waiting ABSENT that names a position is removed from the queue (R31), before the other effects of the
notice that removes it: the model's choice (log entry 40). -/
def State.removeAbsent (p : Pos) (s : State) : State :=
  { s with bus.txq := s.bus.txq.filter fun e => e.notice != .absent p }

/-- The silence limit of a member status, ms (R50). -/
def State.silenceLimit (s : State) : MemberStatus → Option Nat
  | .running => some (s.absenceLimit * s.beaconPeriod)
  | .joining => some ((s.absenceLimit + 3) * s.beaconPeriod)
  | .unknown | .absent => none

/-- The silence timer of a member restarts at the limit of its status; none runs for the station's own
position (R50). -/
def State.restartSilence (p : Pos) (s : State) : State :=
  if p = s.own then s
  else { s with mem.silence := setAt s.mem.silence p (s.silenceLimit (s.mem.members[p]).status) }

/-- A notice from a member has been applied: it is not absent (R31, R50). -/
def State.heard (p : Pos) (s : State) : State := (s.removeAbsent p).restartSilence p

/-- A member is foreign (R48). -/
def State.isForeign (s : State) (p : Pos) : Bool := (s.mem.members[p]).foreign

/-- The Heat Share Unit takes a class-1 notice: at PRESS, from a member that is not foreign (R127). -/
def State.takesShares (s : State) (p : Pos) : Bool := s.role == some .press && !s.isForeign p

/-- The effect of a class-1 notice: the member is heard, and a PRESS station applies it. -/
def State.classOne (p : Pos) (f : State → State) (s : State) : State :=
  let s1 := s.heard p
  if s1.takesShares p then f s1 else s1

/-- Remove a position from the share table at a PRESS station (R131). -/
def State.leaveShares (p : Pos) (s : State) : State :=
  if s.role = some .press then s.removeShares p else s

/-- The entry of the room-heard table (R77). -/
def State.setRoomHeard (p : Pos) (o : Bool) (s : State) : State :=
  { s with zt.roomHeard := setAt s.zt.roomHeard p o }

/-- The entry of the member table (R47). -/
def State.setMember (p : Pos) (m : Member) (s : State) : State :=
  { s with mem.members := setAt s.mem.members p m }

/-! ### STOP, GO and ABSENT -/

/-- A STOP applied (R94); with no reason named it is a GO (R193). -/
def State.stopEffect (p : Pos) (reasons : Byte) (s : State) : State :=
  (s.heard p).setStopEntry p (Reasons.ofNat reasons.toNat)

/-- A GO applied (R94). -/
def State.goEffect (p : Pos) (s : State) : State := (s.heard p).setStopEntry p Reasons.empty

/-- An ABSENT naming another position applied (R51). The order of its effects, MEMBER_ABSENT before the stop
set and the share table, is the model's choice (log entry 41). -/
def State.declareAbsent (p : Pos) (s : State) : State :=
  let m := s.mem.members[p]
  let s1 :=
    if m.status = .absent then s
    else (s.latch .memberChange).log .memberAbsent 0 (.value (posNumber p))
  let s2 := (s1.setMember p { m with status := .absent }).setRoomHeard p false
  let s3 := { s2 with mem.silence := setAt s2.mem.silence p none }
  ((s3.removeAbsent p).setStopEntry p Reasons.empty).leaveShares p

/-- An ABSENT applied (R51): naming the station's own position it halts the station. -/
def State.absentEffect (p : Pos) (position : Byte) (s : State) : State :=
  let q := posOfByte position
  if q = s.own then (s.heard p).halt .absentSelf else (s.heard p).declareAbsent q

/-! ### HANDOVER, ROOM and VOID -/

/-- The station applies its own HANDOVER (R83): undelivered to a target that is ABSENT, UNKNOWN or
foreign. -/
def State.ownHandover (target : Pos) (b : BookRecord) (s : State) : State :=
  let m := s.mem.members[target]
  if m.status = .absent ∨ m.status = .unknown ∨ m.foreign then
    s.drop .undelivered (.value (posNumber target)) b
  else s

/-- A handed-over record taken at its target (R62). -/
def State.takeHandover (b : BookRecord) (s : State) : State :=
  if b.tag ≠ 0 ∧ s.holdsTag b.tag then s.drop .duplicate .none b
  else
    match s.zt.zone.find? ZoneRecord.adoptable with
    | some z => s.adoptInto z b
    | none =>
      if Config.incomingCap ≤ s.zt.incoming.length then s.drop .incomingOverrun .none b
      else ((s.placeIncoming b).judgeRoom).andThen State.judgeKeepwarm

/-- A HANDOVER applied (R62, R82, R83). -/
def State.handoverEffect (p : Pos) (target : Byte) (image : RecordImage) (s : State) : State :=
  let s1 := s.heard p
  let t := posOfByte target
  if p = s.own then s1.ownHandover t (recordOf image)
  else if t = s.own ∧ ¬ s1.isForeign p then s1.takeHandover (recordOf image)
  else s1

/-- A ROOM applied (R77). -/
def State.roomEffect (p : Pos) (standing : Byte) (s : State) : State :=
  let s1 := s.heard p
  if s1.isForeign p then s1 else s1.setRoomHeard p (standing.getLsbD 0)

/-- The station's magazine takes a VOID that names its part lacking (R88, R126). -/
def State.wantsVoid (s : State) (lacks : Byte) : Bool :=
  (s.role == some .case && lacks.getLsbD 0) || (s.role == some .jacket && lacks.getLsbD 1)

/-- A VOID applied (R88, R111); title key 0 is ignored (R193). -/
def State.voidEffect (p : Pos) (key : Key) (format lacks : Byte) (s : State) : State :=
  let s1 := s.heard p
  if s1.isForeign p ∨ key = 0 ∨ ¬ s1.wantsVoid lacks then s1
  else s1.addVoid ⟨key, formatOf format⟩

/-! ### JOIN and BEACON -/

/-- A digest from a peer that differs while this station is JOINING (R44). -/
def State.digestClash (s : State) (p : Pos) (digest : W16) : Bool :=
  s.mem.station == .joining && p != s.own && digest != s.params.digest

/-- The old incarnation of a member that joins again is absent (R49). The order of its effects,
MEMBER_REJOINED before the stop set and the share table, is the model's choice (log entry 41). -/
def State.implicitAbsence (p : Pos) (s : State) : State :=
  (((s.latch .memberChange).log .memberRejoined 0 (.value (posNumber p))).setStopEntry p
    Reasons.empty).leaveShares p

/-- What a JOIN finds of its sender (R47): an implicit absence of a JOINING or RUNNING member, or a
member newly joined. -/
def State.joinFinds (p : Pos) (s : State) : State :=
  match (s.mem.members[p]).status with
  | .joining | .running => s.implicitAbsence p
  | .unknown | .absent =>
    (if p = s.own then s else s.latch .memberChange).log .memberJoined 0
      (.value (posNumber p))

/-- The station's own JOIN starts its join window of three beacon periods (R42). -/
def State.startWindow (p : Pos) (s : State) : State :=
  if p = s.own then { s with mem.joinWindow := some (3 * s.beaconPeriod) } else s

/-- A JOIN applied (R42, R44, R47 to R50). Its role code is the whole of byte 0, so a byte above 7 names no role
(log entry 53). -/
def State.joinEffect (p : Pos) (role : Byte) (digest : W16) (s : State) : State :=
  if s.digestClash p digest then s.halt .digestClash
  else
    ((s.removeAbsent p).joinFinds p).andThen fun t =>
      ((t.setMember p ⟨.joining, Role.ofCode role.toNat, digest != t.params.digest⟩).setRoomHeard
        p false |>.restartSilence p).startWindow p

/-- The first BEACON of the join window gives the stop set (R43, R95). -/
def State.adoptStops (p : Pos) (c : BeaconContent) (s : State) : State :=
  if s.mem.stopAdopted then s else { s.setStops c.stops p with mem.stopAdopted := true }

/-- The first PRESS BEACON with a share snapshot gives a PRESS station its share table (R43, R145); one of 13
bytes carries none and does not count (R193, log entry 17). -/
def State.adoptTable (c : BeaconContent) (s : State) : State :=
  match c.shares with
  | none => s
  | some (holders, waits) =>
    if s.role = some .press ∧ ¬ s.mem.shareAdopted then s.adoptShares holders waits else s

/-- A RUNNING PRESS station compares a PRESS member's share snapshot (R146). -/
def State.compareTable (p : Pos) (c : BeaconContent) (s : State) : State :=
  match c.shares with
  | none => s
  | some (holders, waits) =>
    if s.role = some .press then s.compareShares p holders waits else s

/-- What a BEACON of a member that is not foreign tells beside its status (R43, R77, R146). R43 applies a later
BEACON of the join window to the member table and silence timers only, R77 has every such BEACON set the
room heard: the model sets it at every one (log entry 51). The room heard is set first, then the stop set is
adopted, with LINE_STOPPED or LINE_RUNNING, and then the share table, with WITHDRAW and PROTOCOL: R43, R95 and
R145 give no order, and the order is the model's choice (log entry 59). -/
def State.beaconTells (p : Pos) (c : BeaconContent) (s : State) : State :=
  let s1 := s.setRoomHeard p c.room
  if s.mem.station = .joining then (s1.adoptStops p c).adoptTable c else s1.compareTable p c

/-- A BEACON applied (R43, R44, R47, R48, R77, R146). -/
def State.beaconEffect (p : Pos) (payload : List Byte) (s : State) : State :=
  let c := beaconOf payload
  if s.digestClash p c.digest then s.halt .digestClash
  else
    let foreign := c.digest != s.params.digest
    let s1 := ((s.removeAbsent p).setMember p
      ⟨.running, Role.ofCode c.roleCode, foreign⟩).restartSilence p
    if foreign then s1 else s1.beaconTells p c

/-! ### The commands -/

/-- STOP from a sender (R94). -/
def execStopNotice (sender : Pos) (reasons : Byte) (s : State) : Result :=
  .next (s.receive sender .stop [reasons] (State.stopEffect sender reasons))

/-- GO from a sender (R94). -/
def execGoNotice (sender : Pos) (s : State) : Result :=
  .next (s.receive sender .go [] (State.goEffect sender))

/-- ABSENT from a sender (R51). -/
def execAbsent (sender : Pos) (position : Byte) (s : State) : Result :=
  .next (s.receive sender .absent [position] (State.absentEffect sender position))

/-- CLAIM from a sender (R128). -/
def execClaim (sender : Pos) (cls : Byte) (s : State) : Result :=
  .next (s.receive sender .claim [cls]
    (State.classOne sender (State.applyClaim sender (classOf cls))))

/-- RELEASE from a sender (R129). -/
def execRelease (sender : Pos) (s : State) : Result :=
  .next (s.receive sender .release [] (State.classOne sender (State.applyRelease sender)))

/-- WITHDRAW from a sender (R130). -/
def execWithdraw (sender : Pos) (s : State) : Result :=
  .next (s.receive sender .withdraw [] (State.classOne sender (State.applyWithdraw sender)))

/-- HANDOVER from a sender (R62). -/
def execHandover (sender : Pos) (target : Byte) (image : RecordImage) (s : State) : Result :=
  .next (s.receive sender .handover (target :: image.toList)
    (State.handoverEffect sender target image))

/-- ROOM from a sender (R77). -/
def execRoom (sender : Pos) (standing : Byte) (s : State) : Result :=
  .next (s.receive sender .room [standing] (State.roomEffect sender standing))

/-- VOID from a sender (R111). -/
def execVoid (sender : Pos) (key : Key) (format lacks : Byte) (s : State) : Result :=
  .next (s.receive sender .void (bytes3 key ++ [format, lacks])
    (State.voidEffect sender key format lacks))

/-- JOIN from a sender (R47). -/
def execJoinNotice (sender : Pos) (role : Byte) (digest : W16) (s : State) : Result :=
  .next (s.receive sender .join (role :: bytes2 digest) (State.joinEffect sender role digest))

/-- BEACON from a sender (R47); a payload length of no BEACON makes the kind unknown, and the frame is
flagged (R23; log entry 17). -/
def execBeacon (sender : Pos) (payload : List Byte) (s : State) : Result :=
  if beaconLengthKnown payload.length then
    .next (s.receive sender .beacon payload (State.beaconEffect sender payload))
  else execFlaggedFrame (.kind sender) s

end Sys2Proof.Machine
end

