-- ==== Sys2Proof/Machine/Outputs.lean ====
section
/-! DEFINITION. The output pins, each computed from the state by the rule that gives it, and the conditions
that WATCH drives onto the data output of the station port (R183). -/

namespace Sys2Proof.Machine

/-- The station is RUNNING, as a Bool. -/
def State.runs (s : State) : Bool := s.mem.station == .running

/-- Conveyor run (R101): exactly its three conditions, so it comes on again where the own reasons are emptied
before their STOP has been applied, though R101 also has it wait for the GO (log entry 52). -/
def State.conveyorRun (s : State) : Bool := s.runs && s.lineRunning && s.mem.ownStop.isEmpty

/-- The head of the zone list is a record whose divert has failed (R73). -/
def State.headFailed (s : State) : Bool := s.zt.zone.head?.any ZoneRecord.divertFailed

/-- Exit hold (R73). -/
def State.exitHold (s : State) : Bool :=
  s.runs && ((!s.params.straps.isEnd && !s.peerOpen) || s.headFailed)

/-- Work stop (R69). -/
def State.workStop (s : State) : Bool := s.runs && s.atWork?.isSome

/-- A cycle of a kind is in progress. -/
def State.cycleIs (s : State) (k : CycleKind) : Bool := s.work.cycle.any fun c => c.kind == k

/-- Cycle start (R116, R167). -/
def State.cycleStart (s : State) : Bool := s.runs && s.cycleIs .marry

/-- Skip (R115, R120). -/
def State.skipOutput (s : State) : Bool := s.runs && s.cycleIs .skip

/-- Feeder stop (R110). -/
def State.feederStop (s : State) : Bool := s.runs && s.hasMagazine && s.parts.high

/-- Clamp (R149). -/
def State.clamp (s : State) : Bool := s.runs && s.work.press != .idle

/-- The station's own position is a holder in its own share table (R139). -/
def State.ownHolds (s : State) : Bool := s.heat.holders.contains s.own

/-- Heater (R139). -/
def State.heater (s : State) : Bool :=
  s.runs && s.ownHolds && (s.work.heat.isSome || s.heat.burst.isSome)

/-- Divert (R172). -/
def State.divertOutput (s : State) : Bool := s.runs && s.work.divert.isSome

/-- Admit (R16). -/
def State.admitOutput (s : State) : Bool :=
  s.runs && s.role == some .infeed && s.lineRunning && s.zt.roomOpen && !s.zt.draining

/-- The condition a WATCH selector names (R183). -/
def State.watched (s : State) : WatchSelector → Bool
  | .workBusy => s.atWork?.isSome
  | .lineRunning => s.lineRunning
  | .shareHeld => s.role == some .press && s.ownHolds

/-- The condition a WATCH selector byte names (12.2). -/
def watchSelector (b : Byte) : Option WatchSelector :=
  if b = 0 then some .workBusy else if b = 1 then some .lineRunning
  else if b = 2 then some .shareHeld else none

end Sys2Proof.Machine
end

