-- ==== Sys2Proof/Machine/Images.lean ====
section
/-! DEFINITION. The images of the read commands (R182, R184, R185, R194 and 12.2). -/

namespace Sys2Proof.Machine

/-- The image of `size` bytes of an item that is not there (R194). -/
def emptyImage (size : Nat) : List Byte := List.replicate size 0

/-! ### The codes of the status image -/

/-- Status byte 0. -/
def StationState.code : StationState → Nat
  | .config => 0 | .joining => 1 | .running => 2 | .halted => 3

/-- Status byte 1. -/
def ResetCause.code : ResetCause → Nat
  | .powerOn => 0 | .pin => 1 | .command => 2

/-- Status byte 7. -/
def PortResult.code : PortResult → Nat
  | .accepted => 0 | .refusedState => 1 | .refusedRange => 2 | .refusedBusy => 3 | .frame => 4

/-- The status of a member entry. -/
def MemberStatus.code : MemberStatus → Nat
  | .unknown => 0 | .joining => 1 | .running => 2 | .absent => 3

/-- The work state of CASE and JACKET. -/
def PartsWork.code : PartsWork → Nat
  | .idle => 0 | .waiting => 1 | .skipping => 2 | .cycling => 3

/-- The press state. -/
def PressState.code : PressState → Nat
  | .idle => 0 | .waitShare => 1 | .heat => 2 | .set => 3 | .suspended => 4

/-- The own claim state. -/
def ClaimState.code : ClaimState → Nat
  | .none => 0 | .queued => 1 | .waiting => 2 | .holding => 3 | .returning => 4

/-! ### The status image, 81 bytes -/

/-- Bytes 0 to 7: the station. -/
def State.statusStation (s : State) : List Byte :=
  [nat1 s.mem.station.code, nat1 s.mem.resetCause.code, nat1 s.mem.haltReason.code,
    nat1 (s.params.straps.role.toNat + bitAt 3 s.params.straps.isEnd + s.own.val * 16)]
    ++ bytes2 s.params.digest ++ [s.params.offending, nat1 s.port.result.code]

/-- A member entry in one byte. -/
def memberByte (m : Member) : Byte :=
  nat1 (m.status.code + (m.role.map Role.code).getD 0 * 4 + bitAt 5 m.foreign)

/-- Bytes 8 to 35: the line. -/
def State.statusLine (s : State) : List Byte :=
  [nat1 (bitAt 0 s.lineRunning), nat1 s.mem.ownStop.toNat]
    ++ stopSetBytes s.mem.stopSet ++ s.mem.members.toList.map memberByte

/-- The announced standing: 0 none, 1 closed, 2 open. -/
def announcedCode : Option Bool → Nat
  | none => 0 | some false => 1 | some true => 2

/-- Bytes 36 to 40: the zone. Byte 40 gives the downstream peer as 1 to 16, 0 being no peer (log entry 50). -/
def State.statusZone (s : State) : List Byte :=
  [nat1 s.zt.zone.length, nat1 s.zt.incoming.length, BitVec.ofInt 8 s.room,
    nat1 (bitAt 0 s.zt.roomOpen + announcedCode s.zt.announced * 2 + bitAt 3 s.peerOpen
      + bitAt 4 s.exitHold + bitAt 5 s.workStop + bitAt 6 s.conveyorRun
      + bitAt 7 s.zt.draining),
    nat1 ((s.peer.map posNumber).getD 0)]

/-- Bytes 41 to 44: identity. -/
def State.statusIdentity (s : State) : List Byte :=
  [nat1 (bitAt 0 s.rd.slot.isSome)] ++ keyBytes (s.rd.slot.map PartId.key)

/-- Byte 45: the role's work state. -/
def State.workCode (s : State) : Nat :=
  match s.role with
  | some .infeed => if s.rd.window.isSome then 1 else 0
  | some .case | some .jacket => s.work.parts.code
  | some .press => s.work.press.code
  | some .gate => if s.work.divert.isSome then 1 else 0
  | none => 0

/-- Bytes 45 to 48: work. -/
def State.statusWork (s : State) : List Byte :=
  [nat1 s.workCode, nat1 (bitAt 0 s.atWork?.isSome)] ++ bytes2 s.workTag

/-- Bytes 49 to 52: parts, at CASE and JACKET. -/
def State.statusParts (s : State) : List Byte :=
  if s.hasMagazine then
    [nat1 s.parts.magazine.length, nat1 s.parts.voids.length,
      nat1 (bitAt 0 s.parts.doubt + bitAt 1 s.parts.low + bitAt 2 s.parts.high
        + bitAt 3 s.feederStop),
      s.parts.arrival]
  else emptyImage 4

/-- The station's place in the wait list, from 1. -/
def State.waitPlace (s : State) : Option Nat :=
  (s.heat.waits.findIdx? fun e => e.position == s.own).map (· + 1)

/-- Bytes 53 to 74: heat, at PRESS. Timers are shown as running or not; the time left of the hold-off, claim-wait
and warm timers has no place in an image (R147, log entry 48). -/
def State.statusHeat (s : State) : List Byte :=
  if s.role = some .press then
    [nat1 (s.heat.claim.code + s.heat.use.code * 16),
      nat1 (bitAt 0 s.heat.pendingBook + bitAt 1 s.heat.holdOff.isSome
        + bitAt 2 s.heat.claimWait.isSome + bitAt 3 s.heat.warm + bitAt 4 s.heater
        + bitAt 5 s.clamp),
      nat1 (if s.ownHolds then 1 else if s.waitPlace.isSome then 2 else 0),
      nat1 (s.waitPlace.getD 0)]
      ++ nat2 (holderNat s.heat.holders) ++ [nat1 s.heat.waits.length]
      ++ (s.heat.waits.map waitByte ++ emptyImage 15).take 15
  else emptyImage 22

/-- Bytes 75 to 80: counts. -/
def State.statusCounts (s : State) : List Byte :=
  bytes2 s.port.retired ++ bytes2 s.port.passed ++ bytes2 s.port.diverted

/-- The status image (R182). Some of the state that R93, R103, R125, R147 and R165 say the port reads in HALTED
(the room-heard table, the filtered guard level, the match index, the time left of timers, the station
allowance and the book portion credited) has no place in an image of 12.2 and is shown by none (log entry
48). -/
def State.statusImage (s : State) : List Byte :=
  s.statusStation ++ s.statusLine ++ s.statusZone ++ s.statusIdentity ++ s.statusWork
    ++ s.statusParts ++ s.statusHeat ++ s.statusCounts

/-! ### Records and part entries -/

/-- Byte 0 of a zone record's image. -/
def Phase.code : Phase → Nat
  | .entering => 1 | .atWork => 2 | .worked => 3

/-- A zone record's image, with the adoption distance left in whole mm (R184). -/
def State.zoneImage (s : State) (z : ZoneRecord) : List Byte :=
  [nat1 z.phase.code,
    nat1 (bitAt 0 z.adoptable + bitAt 1 z.counting + bitAt 2 z.divertFailed)]
    ++ absent2 (z.adoption.map (· / s.scale))
    ++ recordImage z.book (openTimeShown z.book.openTime z.step)

/-- An incoming record's image, with the transit distance left in whole mm (R184). -/
def State.incomingImage (s : State) (r : IncomingRecord) : List Byte :=
  [4, 0] ++ nat2 (r.transit / s.scale)
    ++ recordImage r.book (openTimeShown r.book.openTime r.step)

/-- The record image that READ RECORD's arguments name, if any (R184). -/
def State.recordAt (s : State) (list index : Byte) : Option (List Byte) :=
  if list = 0 then (s.zt.zone[index.toNat]?).map s.zoneImage
  else if list = 1 then (s.zt.incoming[index.toNat]?).map s.incomingImage
  else none

/-- A magazine entry's image (12.2). -/
def partImage (e : PartEntry) : List Byte :=
  [if e.waiting then 2 else 1, e.arrival] ++ keyBytes e.key ++ [formatByte e.format]

/-- A void entry's image (12.2). -/
def voidImage (v : VoidEntry) : List Byte := [3, 0] ++ bytes3 v.key ++ [formatByte v.format]

/-- The part entry image that READ MAGAZINE's index names, if any (R185). -/
def State.partAt (s : State) (index : Byte) : Option (List Byte) :=
  if index.toNat < 24 then (s.parts.magazine[index.toNat]?).map partImage
  else if index.toNat < 40 then (s.parts.voids[index.toNat - 24]?).map voidImage
  else none

end Sys2Proof.Machine
end

