-- ==== Sys2Proof/Machine/PortReads.lean ====
section
/-! DEFINITION. Transactions of the station port (R179): their beginning, the clocking of a read's data bits,
and the release of select; the read commands (R182 to R185, R189, R191), TRANSACTION_FRAME, and WRITE
ENABLES (R188). A read may stay open from one command to the next, so that events fall between its
bits (log entry 2). -/

namespace Sys2Proof.Machine

/-! ### What a read fixes at its beginning -/

/-- The part entry image READ MAGAZINE shifts out at this station (R181, R185). -/
def State.magazineImage (s : State) (index : Byte) : List Byte :=
  if s.hasMagazine then (s.partAt index).getD (emptyImage 6) else emptyImage 6

/-- The image a read fixes when its last argument byte completes (R179); READ JOURNAL copies its entries
one by one (R191). -/
def State.imageOf (s : State) : PortRead → List Byte
  | .status => s.statusImage
  | .latches => latchImage s.port.latches
  | .journal => []
  | .record list index => (s.recordAt list index).getD (emptyImage 28)
  | .magazine index => s.magazineImage index

/-- The result READ MAGAZINE writes: REFUSED_STATE at another role, then REFUSED_RANGE (R181, R185). -/
def State.magazineResult (s : State) (index : Byte) : Option PortResult :=
  if ¬ s.hasMagazine then some .refusedState
  else if (s.partAt index).isSome then none
  else some .refusedRange

/-- The result that the release of a read writes: none for an accepted one (R180); READ RECORD is refused
REFUSED_RANGE where no record is named (R184). -/
def State.refusalOf (s : State) : PortRead → Option PortResult
  | .status | .latches | .journal => none
  | .record list index => if (s.recordAt list index).isSome then none else some .refusedRange
  | .magazine index => s.magazineResult index

/-! ### The release of select, and the beginning of a transaction -/

/-- The last command result once select is released (R179, R180, R183): FRAME for a read released within a
byte, else the refusal of the read or of the WATCH, if any. -/
def PortUnit.resultAtRelease (p : PortUnit) : PortResult :=
  match p.reading with
  | some r => if r.bits % 8 ≠ 0 then .frame else r.refusal.getD p.result
  | none => if p.watch.any fun b => (watchSelector b).isNone then .refusedRange else p.result

/-- Select is released: the transaction in progress, if any, ends (R179). -/
def State.releasePort (s : State) : State :=
  { s with port.watch := none, port.reading := none, port.result := s.port.resultAtRelease }

/-- A transaction begins: one still open has been released before it, and nothing has been shifted out. -/
def State.openPort (s : State) : State := { s.releasePort with port.dataOut := [] }

/-- A read begins (R179): its image and its refusal are fixed, and READ LATCHES takes its snapshot, which
lowers every set-since-snapshot mark (R189). That a READ RECORD or READ MAGAZINE is refused is judged with the
image, at the index byte, though its result is written at the release (log entry 49). -/
def State.beginRead (c : PortRead) (s : State) : State :=
  let s1 := s.openPort
  { s1 with
    port.since := if c = .latches then Vector.replicate 17 false else s1.port.since
    port.reading := some
      { command := c, image := s1.imageOf c, bits := 0, refusal := s1.refusalOf c
        snapshot := s1.port.latches, copied := false } }

/-! ### Clocking data bits -/

/-- The bits of an image in the order in which they go out, each byte most significant bit first (R179). -/
def imageBits (image : List Byte) : List Bool := image.flatMap byteBits

/-- `n` more bits of a fixed image go out; bits beyond its end are zero (R179). -/
def PortUnit.shift (n : Nat) (r : Reading) (p : PortUnit) : PortUnit :=
  let total := r.bits + n
  { p with
    dataOut := (imageBits r.image ++ List.replicate total false).take total
    reading := some { r with bits := total } }

/-- `n` more bits of the latch image go out; its last bit clears every latch set in the snapshot whose
set-since-snapshot mark is still lowered (R189). -/
def PortUnit.shiftLatches (n : Nat) (r : Reading) (p : PortUnit) : PortUnit :=
  if r.bits < 24 ∧ 24 ≤ r.bits + n then
    { p.shift n r with
      latches := Vector.ofFn fun k => p.latches[k] && !(r.snapshot[k] && !p.since[k]) }
  else p.shift n r

/-- The head of the journal is copied into the port's output, or the empty image where there is none
(R191). -/
def Reading.copyHead (journal : List JournalEntry) (r : Reading) : Reading :=
  match journal with
  | [] => { r with image := emptyImage 8, copied := false }
  | e :: _ => { r with image := journalImage e, copied := true }

/-- `n` more bits of one journal entry go out, at most to its end: its copy is taken as its first byte
begins, and its last bit removes the head of the journal if that is still the entry copied (R191). -/
def PortUnit.shiftEntry (n : Nat) (r : Reading) (p : PortUnit) : PortUnit :=
  let at_ := r.bits % 64
  let c := if at_ = 0 then r.copyHead p.journal else r
  let ends := at_ + n = 64
  { p with
    dataOut := p.dataOut ++ ((imageBits c.image).drop at_).take n
    journal := if ends ∧ c.copied then p.journal.drop 1 else p.journal
    reading := some { c with bits := r.bits + n, copied := c.copied && !ends } }

/-- `n` more bits of READ JOURNAL go out, entry by entry; `fuel` bounds the number of entries. -/
def PortUnit.shiftJournal (fuel n : Nat) (p : PortUnit) : PortUnit :=
  match fuel, p.reading with
  | 0, _ | _, none => p
  | k + 1, some r =>
    if n = 0 then p
    else
      let now := min n (64 - r.bits % 64)
      (p.shiftEntry now r).shiftJournal k (n - now)

/-- `n` more data bits of the read in progress are clocked. -/
def PortUnit.clock (n : Nat) (p : PortUnit) : PortUnit :=
  match p.reading with
  | none => p
  | some r =>
    match r.command with
    | .latches => p.shiftLatches n r
    | .journal => p.shiftJournal (n / 64 + 2) n
    | .status | .record _ _ | .magazine _ => p.shift n r

/-- The level on the data output between two data bits of a read: that of the bit which the next rising edge
samples (R179). Of a journal entry not yet begun it is the first bit of the head, which is copied as that
bit is clocked (R191, log entry 2). -/
def PortUnit.nextLevel (p : PortUnit) (r : Reading) : Bool :=
  match r.command with
  | .journal =>
    let c := if r.bits % 64 = 0 then r.copyHead p.journal else r
    (imageBits c.image).getD (r.bits % 64) false
  | .status | .latches | .record _ _ | .magazine _ => (imageBits r.image).getD r.bits false

/-- The level of the data output (R179, R183): in a read the next bit of its image, in a WATCH the condition
watched, and low outside both. -/
def State.dataLevel (s : State) : Bool :=
  match s.port.reading with
  | some r => s.port.nextLevel r
  | none => (s.port.watch.bind watchSelector).any s.watched

/-- `n` more data bits of the read in progress are clocked. -/
def State.clockRead (n : Nat) (s : State) : State := { s with port := s.port.clock n }

/-! ### The read commands -/

/-- A read command: it begins its transaction unless that is in progress, clocks its bits, and ends if
select is then released. -/
def State.read (c : PortRead) (bits : Nat) (released : Bool) (s : State) : State :=
  let s1 := if s.port.reading.any fun r => r.command == c then s else s.beginRead c
  let s2 := s1.clockRead bits
  if released then s2.releasePort else s2

/-- STATUS (R182). -/
def execStatus (bits : Nat) (s : State) (released : Bool := true) : Result :=
  .next (s.read .status bits released)

/-- WATCH (R183): the condition its selector names is driven onto the data output until select is released;
a selector naming none is refused at the release. -/
def execWatch (selector : Byte) (s : State) (released : Bool := true) : Result :=
  let s1 : State :=
    if s.port.watch = some selector then s else { s.openPort with port.watch := some selector }
  .next (if released then s1.releasePort else s1)

/-- READ LATCHES (R189). -/
def execReadLatches (bits : Nat) (s : State) (released : Bool := true) : Result :=
  .next (s.read .latches bits released)

/-- READ JOURNAL (R191). -/
def execReadJournal (bits : Nat) (s : State) (released : Bool := true) : Result :=
  .next (s.read .journal bits released)

/-- READ RECORD (R184). -/
def execReadRecord (list index : Byte) (bits : Nat) (s : State) (released : Bool := true) : Result :=
  .next (s.read (.record list index) bits released)

/-- READ MAGAZINE (R185). -/
def execReadMagazine (index : Byte) (bits : Nat) (s : State) (released : Bool := true) : Result :=
  .next (s.read (.magazine index) bits released)

/-! ### Transactions badly framed -/

/-- The read command that the bytes of a transaction begin, with the number of whole data bytes after its
last argument byte (12.2). -/
def namedRead : List Byte → Option (PortRead × Nat)
  | [] => none
  | code :: rest =>
    if code = 0x01 then some (.status, rest.length)
    else if code = 0x03 then some (.latches, rest.length)
    else if code = 0x05 then some (.journal, rest.length)
    else
      match rest with
      | [] => none
      | [a] => if code = 0x07 then some (.magazine a, 0) else none
      | a :: b :: data =>
        if code = 0x07 then some (.magazine a, data.length + 1)
        else if code = 0x06 then some (.record a b, data.length) else none

/-- What a transaction that is released badly framed has done by then: a read has shifted its image and made
its side effects as the bytes went out (R179, R189, R191; log entry 16). -/
def State.brokenRead (bytes : List Byte) (extraBits : Nat) (s : State) : State :=
  match namedRead bytes with
  | some (c, n) => (s.beginRead c).clockRead (8 * n + extraBits)
  | none => s.openPort

/-- TRANSACTION_FRAME (R179): the transaction is discarded and the last command result is FRAME. -/
def execTransactionFrame (bytes : List Byte) (extraBits : Nat) (s : State) : Result :=
  .next ((s.brokenRead bytes extraBits).releasePort.answer .frame)

/-- WRITE ENABLES (R188): latch k in bit k, the groups in bits 0 to 3 and the master enable in bit 7 of
the last byte (12.2); other bits are ignored (R194). -/
def execWriteEnables (latches : BitVec 24) (groupMaster : Byte) (s : State) : Result :=
  let s1 := s.openPort
  .next <| State.answer .accepted
    { s1 with
      port.enables := Vector.ofFn fun k => latches.getLsbD k.val
      port.groups := Vector.ofFn fun g => groupMaster.getLsbD g.val
      port.master := groupMaster.getLsbD 7 }

end Sys2Proof.Machine
end

