-- ==== Sys2Proof/Machine/PortOperator.lean ====
section
/-! DEFINITION. The operator commands of the station port: MARK (R186), PURGE (R74), MAGAZINE CLEAR (R124),
STOP and GO (R98), DRAIN (R16). -/

namespace Sys2Proof.Machine

/-- The kind code MARK takes, MACHINE (12.2). -/
def machineKind : Byte := 12

/-- MARK (R186): the AT_WORK record is marked MACHINE and the role's work takes the mark. -/
def execMark (kind : Byte) (s : State) : Result :=
  let s1 := s.openPort
  .next <|
    if ¬ s.isRunning ∨ s.atWork?.isNone then s1.answer .refusedState
    else if kind ≠ machineKind then s1.answer .refusedRange
    else
      (((s1.answer .accepted).markAtWork .machine).log .machineMark s.workTag .none).afterMark

/-- The oldest record with a tag in the zone list. -/
def State.purgeZone? (s : State) (tag : W16) : Option ZoneRecord :=
  s.zt.zone.find? fun z => z.book.tag == tag

/-- The oldest record with a tag in the incoming list. -/
def State.purgeIncoming? (s : State) (tag : W16) : Option IncomingRecord :=
  s.zt.incoming.find? fun r => r.book.tag == tag

/-- A zone record is purged (R74): it leaves its list, the work on it is abandoned if it was AT_WORK, and
it leaves the line as PURGED. -/
def State.purgeZone (tag : W16) (z : ZoneRecord) (s : State) : State :=
  let s1 := { s with zt.zone := s.zt.zone.eraseP fun y => y.book.tag == tag }
  State.depart .purged .none z.book (if z.phase = .atWork then s1.abandonWork else s1)

/-- An incoming record is purged (R74). -/
def State.purgeIncoming (tag : W16) (r : IncomingRecord) (s : State) : State :=
  State.depart .purged .none r.book
    { s with zt.incoming := s.zt.incoming.eraseP fun y => y.book.tag == tag }

/-- PURGE (R74). -/
def execPurge (tag : W16) (s : State) : Result :=
  let s1 := s.openPort
  .next <|
    if ¬ s.isActive then s1.answer .refusedState
    else
      match s.purgeZone? tag, s.purgeIncoming? tag with
      | some z, _ =>
        if z.phase = .atWork ∧ s.clamp then s1.answer .refusedBusy
        else (s1.answer .accepted).purgeZone tag z
      | none, some r => (s1.answer .accepted).purgeIncoming tag r
      | none, none => s1.answer .refusedRange

/-- The magazine is cleared (R124): the list and its read window go, doubt is cleared, MAG_OVERRUN is
removed from the own stop reasons, the thresholds are judged, MAG_CLEARED is journalled, and a waiting
record is matched. -/
def State.clearMagazine (s : State) : State :=
  let removed := s.parts.magazine.length
  let s1 : State := { s with parts.magazine := [], parts.doubt := false, rd.window := none }
  s1.removeMagOverrun.andThen fun t =>
    State.afterWait (t.judgeThresholds.log .magCleared 0 (.value removed))

/-- MAGAZINE CLEAR (R124). -/
def execMagazineClear (s : State) : Result :=
  let s1 := s.openPort
  .next <|
    if ¬ s.hasMagazine ∨ ¬ s.isActive then s1.answer .refusedState
    else if s.work.cycle.isSome then s1.answer .refusedBusy
    else (s1.answer .accepted).clearMagazine

/-- STOP (R98). -/
def execStop (s : State) : Result :=
  let s1 := s.openPort
  .next (if s.isActive then (s1.answer .accepted).addCommand else s1.answer .refusedState)

/-- GO (R98). -/
def execGo (s : State) : Result :=
  let s1 := s.openPort
  .next (if s.isActive then (s1.answer .accepted).removeByGo else s1.answer .refusedState)

/-- DRAIN (R16). -/
def execDrain (s : State) : Result :=
  let s1 := s.openPort
  .next <|
    if s.role = some .infeed ∧ s.mem.station ≠ .halted then
      State.answer .accepted { s1 with zt.draining := true }
    else s1.answer .refusedState

end Sys2Proof.Machine
end

