-- ==== Sys2Proof/Machine/PortWrites.lean ====
section
/-! DEFINITION. Configuring the station: WRITE PARAMETER (R37), WRITE FORMAT (R10), and JOIN with its check
of the configuration (R38, R39). -/

namespace Sys2Proof.Machine

/-- A value is one of a list. -/
def oneOf (l : List Nat) (v : Nat) : Bool := l.contains v

/-- A value lies from `lo` to `hi`, both included. -/
def within (lo hi v : Nat) : Bool := lo ≤ v && v ≤ hi

/-- The range of each line parameter, in the order of R35. -/
def lineRange (i : Fin 8) (v : Nat) : Bool :=
  match i with
  | 0 => oneOf [125, 250, 500, 1000] v
  | 1 => within 1 8 v
  | 2 => within 100 1000 v
  | 3 => within 2 8 v
  | 4 => within 10 300 v
  | 5 => within 5 100 v
  | 6 => within 0 300 v
  | 7 => within 5 300 v

/-- The range of each station parameter, in the order of R36 and the encodings of 12.2. -/
def stationRange (i : Fin 20) (v : Nat) : Bool :=
  match i.val with
  | 0 => within 1 8 v
  | 1 => oneOf [1, 4] v
  | 2 | 3 | 4 | 5 => within 0 1 v
  | 6 => oneOf [96, 192, 384, 1152] v
  | 7 => within 20 2000 v
  | 8 => within 50 5000 v
  | 9 => within 0 50 v
  | 10 => within 1 4 v
  | 11 => within 1 100 v
  | 12 => within 0 4 v
  | 13 | 14 => within 0 12 v
  | 15 => within 5 600 v
  | 16 => within 1 60 v
  | 17 => within 0 50 v
  | 18 => within 0 120 v
  | _ => within 20 2000 v

/-- The four fields of a format entry lie in their ranges (R10). -/
def entryInRange (e : FormatEntry) : Bool :=
  within 100 450 e.nominal.toNat && within 0 20 e.tolerance.toNat && within 5 600 e.heat.toNat
    && within 0 600 e.setTime.toNat

/-- The first line parameter out of range. -/
def ParamStore.badLine (p : ParamStore) : Option (Fin 8) :=
  (List.finRange 8).find? fun i => !lineRange i p.line[i].toNat

/-- The first valid format entry with a field out of range. -/
def ParamStore.badFormat (p : ParamStore) : Option (Fin 16) :=
  (List.finRange 16).find? fun i => entryValid p.formats[i] && !entryInRange p.formats[i]

/-- No format entry is valid. -/
def ParamStore.noFormat (p : ParamStore) : Bool := !p.formats.toList.any entryValid

/-- The first station parameter out of range. -/
def ParamStore.badStation (p : ParamStore) : Option (Fin 20) :=
  (List.finRange 20).find? fun i => !stationRange i p.station[i].toNat

/-- The item at which the check of the configuration stops, in the numbering of 12.2, or none (R38). -/
def ParamStore.offendingItem (p : ParamStore) : Option Nat :=
  if (Role.ofCode p.straps.role.toNat).isNone then some 0
  else
    match p.badLine with
    | some i => some (1 + i.val)
    | none =>
      match p.badFormat with
      | some i => some (16 + i.val)
      | none =>
        if p.noFormat then some 16 else p.badStation.map fun i => 32 + i.val

/-- Store the value of the parameter an identifier names: 1 to 8 and 32 to 51 (R37, 12.2). -/
def ParamStore.write (id : Byte) (v : W16) (p : ParamStore) : Option ParamStore :=
  if h : 1 ≤ id.toNat ∧ id.toNat ≤ 8 then
    some { p with line := p.line.set (id.toNat - 1) v (by omega) }
  else if h : 32 ≤ id.toNat ∧ id.toNat ≤ 51 then
    some { p with station := p.station.set (id.toNat - 32) v (by omega) }
  else none

/-- WRITE PARAMETER (R37): taken in CONFIG, the value stored unchecked. -/
def execWriteParameter (id : Byte) (value : W16) (s : State) : Result :=
  let s1 := s.openPort
  .next <|
    if s.locked then s1.answer .refusedState
    else
      match s.params.write id value with
      | none => s1.answer .refusedRange
      | some p => State.answer .accepted { s1 with params := p }

/-- WRITE FORMAT (R10): taken in CONFIG for an index up to 15, the entry stored as given. -/
def execWriteFormat (index : Byte) (entry : FormatEntry) (s : State) : Result :=
  let s1 := s.openPort
  .next <|
    if s.locked then s1.answer .refusedState
    else if h : index.toNat < 16 then
      State.answer .accepted
        { s1 with params.formats := s.params.formats.set index.toNat entry h }
    else s1.answer .refusedRange

/-- An accepted JOIN (R39): the digest is computed, the parameters locked, the bus attached and counting
a quiet gap, the JOIN notice queued, and the station JOINING. -/
def State.acceptJoin (s : State) : State :=
  let digest := lineDigest s.params.line s.params.formats
  State.log .joinTaken 0 (.value digest.toNat)
    (State.queue (.join s.params.straps.role digest)
      { s with
        params.digest := digest
        params.offending := 255
        bus.attached := true
        bus.quiet := 0
        bus.frame := .none
        bus.drive := .none
        mem.station := .joining })

/-- JOIN (R38, R39). -/
def execJoin (s : State) : Result :=
  let s1 := s.openPort
  .next <|
    if s.locked then s1.answer .refusedState
    else
      match s.params.offendingItem with
      | some n => State.answer .refusedRange { s1 with params.offending := nat1 n }
      | none => s1.acceptJoin.answer .accepted

end Sys2Proof.Machine
end

