-- ==== Sys2Proof/Machine/Timers.lean ====
section
/-! DEFINITION. Membership timers and the join window (R43, R45, R50, R75), the reader line (R11 to R13),
open time (R90), and the timers of heat and press work (R136, R137, R140 to R142, R152 to R161). An
expiry is taken whenever its timer runs (log entry 5). -/

namespace Sys2Proof.Machine

/-- Take an event only while `p` holds; otherwise it has no effect. -/
def State.when (p : Prop) [Decidable p] (f : State → State) (s : State) : State :=
  if p then f s else s

/-! ### Membership -/

/-- An ABSENT naming a position waits in the queue (R31). -/
def State.absentWaits (s : State) (p : Pos) : Bool :=
  s.bus.txq.any fun e => e.notice == .absent p

/-- The silence timer of a member expires (R50). -/
def State.silenceExpires (p : Pos) (s : State) : State :=
  let s1 := { s with mem.silence := setAt s.mem.silence p none }
  if s1.absentWaits p then s1 else s1.queue (.absent p)

/-- SILENCE TIMER EXPIRY (R50). -/
def execSilenceTimerExpiry (member : Pos) (s : State) : Result :=
  .next (s.when (s.isActive ∧ (s.mem.silence[member]).isSome) (State.silenceExpires member))

/-- An eye reads blocked at an input level: dark-on, polarity 0, at on; light-on, polarity 1, at off
(R54). -/
def blocked (polarity : Nat) (pin : Bool) : Bool := pin != (polarity == 1)

/-- The station has a fourth eye (R55). -/
def State.hasFourthEye (s : State) : Bool := s.hasMagazine || s.role == some .gate

/-- The filtered levels found at the input pins on entering RUNNING, without edges (R75). -/
def State.eyesFound (s : State) (pins : InputPins) : Eyes :=
  { entry := blocked (s.stationParam 2) pins.entry
    work := blocked (s.stationParam 3) pins.work
    exit := blocked (s.stationParam 4) pins.exit
    fourth := s.hasFourthEye && blocked (s.stationParam 5) pins.fourth }

/-- The station enters RUNNING (R43, R45, R75, R99, R117, R125). The first BEACON is asked for before GUARD is
added and its STOP asked for, then housekeeping and a keep-warm claim: R43 and R99 give no order (log
entry 47). -/
def State.enterRunning (pins : InputPins) (s : State) : State :=
  let s1 : State :=
    { s with
      mem.station := .running
      mem.joinWindow := none
      mem.beaconTimer := some s.beaconPeriod
      mem.guardOpen := !pins.guard
      zt.eyes := s.eyesFound pins
      work.doneOn := s.hasMagazine && pins.done }
  ((((s1.log .running 0 .none).queue .beacon).andThen fun t =>
    if t.mem.guardOpen then t.addGuard else t).andThen State.judgeHousekeeping).andThen
      State.claimsOpen

/-- JOIN WINDOW END (R43): `pins` are the input levels as then found. -/
def execJoinWindowEnd (pins : InputPins) (s : State) : Result :=
  .next (s.when (s.mem.station = .joining ∧ s.mem.joinWindow.isSome) (State.enterRunning pins))

/-- A BEACON of this station waits in the queue (R45). -/
def State.beaconWaits (s : State) : Bool := s.bus.txq.any fun e => e.notice == .beacon

/-- The beacon timer expires: it restarts, and a BEACON is queued unless one waits (R45). -/
def State.beaconExpires (s : State) : State :=
  let s1 := { s with mem.beaconTimer := some s.beaconPeriod }
  if s1.beaconWaits then s1 else s1.queue .beacon

/-- BEACON TIMER EXPIRY (R45). -/
def execBeaconTimerExpiry (s : State) : Result :=
  .next (s.when (s.isRunning ∧ s.mem.beaconTimer.isSome) State.beaconExpires)

/-! ### The reader -/

/-- ID FRAME (R11, R12): bytes on the reader line, one after another. -/
def execIdFrame (bytes : List ReaderByte) (s : State) : Result :=
  .next (bytes.foldl State.readByte s)

/-- READER GAP TIMEOUT (R11): a frame in assembly ends as bad. -/
def execReaderGapTimeout (s : State) : Result :=
  .next (s.when (s.readerOn ∧ s.rd.assembly ≠ []) State.readError)

/-- READ WINDOW EXPIRY (R13). -/
def execReadWindowExpiry (s : State) : Result :=
  .next (s.when (s.isRunning ∧ s.rd.window.isSome) State.windowExpires)

/-! ### Open time -/

/-- Open time reaches 0 on a zone record (R90, R155). -/
def State.zoneTimeOut (index : Nat) (z : ZoneRecord) (s : State) : State :=
  let s1 := State.openTimeFault z.book.tag
    { s with zt.zone := s.zt.zone.set index (z.onBook (BookRecord.outOfTime s.own)) }
  if z.phase = .atWork then s1.afterMark else s1

/-- Open time reaches 0 on an incoming record (R90). -/
def State.incomingTimeOut (index : Nat) (r : IncomingRecord) (s : State) : State :=
  State.openTimeFault r.book.tag
    { s with
      zt.incoming := s.zt.incoming.set index { r with book := r.book.outOfTime s.own } }

/-- OPEN TIME EXPIRY (R90, R155). -/
def execOpenTimeExpiry (place : RecordPlace) (s : State) : Result :=
  .next <|
    match place with
    | .zone i =>
      match s.zt.zone[i]? with
      | some z => s.when (s.isActive ∧ z.book.openTime.isSome) (State.zoneTimeOut i z)
      | none => s
    | .incoming i =>
      match s.zt.incoming[i]? with
      | some r => s.when (s.isActive ∧ r.book.openTime.isSome) (State.incomingTimeOut i r)
      | none => s

/-! ### Heat shares -/

/-- HOLD-OFF EXPIRY (R136). -/
def execHoldOffExpiry (s : State) : Result :=
  .next (s.when (s.isActive ∧ s.heat.holdOff.isSome) State.endHoldOff)

/-- The class with which the own claim waits (R127). -/
def State.waitClass (s : State) : ClaimClass :=
  ((s.heat.waits.find? fun e => e.position == s.own).map WaitEntry.cls).getD .keepwarm

/-- The claim is starved (R137, R156). -/
def State.starve (s : State) : State :=
  let use := s.heat.use
  let tag := if use = .book then s.workTag else 0
  s.giveUp.andThen fun t =>
    let t1 := (t.latch .claimStarved).log .claimStarved tag
      (.pair s.waitClass.code use.code)
    if use = .book then (t1.markAtWork .heatStarved).finishPress else t1

/-- CLAIM WAIT LIMIT (R137). -/
def execClaimWaitLimit (s : State) : Result :=
  .next (s.when (s.isRunning ∧ s.heat.claim = .waiting ∧ s.heat.claimWait.isSome) State.starve)

/-- Half of the keep-warm interval, ms (R141). -/
def State.halfKeepwarm (s : State) : Nat := s.keepwarmMs / 2

/-- Keep-warm falls due (R141). The warm timer has then run half of K: taken early, KEEPWARM_DUE moves it forward
to that point (log entry 5). -/
def State.fallDue (left : Nat) (s : State) : State :=
  State.judgeKeepwarm
    { s with heat.due := true, heat.warmLeft := some (min left s.halfKeepwarm) }

/-- KEEPWARM DUE (R141). -/
def execKeepwarmDue (s : State) : Result :=
  .next <|
    match s.heat.warmLeft with
    | some left => s.when (s.isRunning ∧ ¬ s.heat.due) (State.fallDue left)
    | none => s

/-- The bar becomes COLD (R140); a keep-warm claim queued or waiting is given up (R143). -/
def State.goCold (s : State) : State :=
  let s1 := { s with heat.warm := false, heat.warmLeft := none, heat.due := false }
  if (s.heat.claim = .queued ∨ s.heat.claim = .waiting) ∧ s.heat.use = .keepwarm then
    s1.giveUp.andThen fun t => t.log .keepwarmLapsed 0 .none
  else s1

/-- WARM TIMER EXPIRY (R140, R143). -/
def execWarmTimerExpiry (s : State) : Result :=
  .next (s.when (s.isRunning ∧ s.heat.warmLeft.isSome) State.goCold)

/-- BURST END (R142). -/
def execBurstEnd (s : State) : Result :=
  .next (s.when (s.isRunning ∧ s.heat.burst.isSome) State.endBurst)

/-! ### Press work -/

/-- What the journal records of a heated book (R152). -/
def State.noteHeated (s : State) : State :=
  match s.atWork? with
  | none => s
  | some z =>
    if z.book.pressed then s.log .pressed z.book.tag .none
    else s.log .heatPartial z.book.tag (.value z.book.heatDone)

/-- The heat phase reaches its length (R152): its whole book portion is credited, also where HEAT_PHASE_END is
taken early (log entry 5). -/
def State.finishHeat (h : HeatPhase) (s : State) : State :=
  (s.endHeat h.book).andThen fun t => t.noteHeated.enterSet

/-- HEAT PHASE END (R152). -/
def execHeatPhaseEnd (s : State) : Result :=
  .next <|
    match s.work.heat with
    | some h => s.when (s.isRunning ∧ s.work.press = .heat) (State.finishHeat h)
    | none => s

/-- SET END (R154). -/
def execSetEnd (s : State) : Result :=
  .next (s.when (s.isRunning ∧ s.work.press = .set) State.finishPress)

/-- MAX SUSPEND EXPIRY (R161). -/
def execMaxSuspendExpiry (s : State) : Result :=
  .next (s.when (s.isRunning ∧ s.work.press = .suspended ∧ s.work.suspendLeft.isSome)
    State.suspendExpired)

/-- The guard opens (R99, R159, R162). -/
def State.guardOpened (s : State) : State :=
  (State.addGuard { s with mem.guardOpen := true }).andThen State.pressGuardOpens

/-- GUARD OPENS (R99). -/
def execGuardOpens (s : State) : Result := .next (s.when s.isRunning State.guardOpened)

/-- The guard closes (R99, R160, R162). -/
def State.guardClosed (s : State) : State :=
  (State.removeGuard { s with mem.guardOpen := false }).andThen State.pressGuardCloses

/-- GUARD CLOSES (R99). -/
def execGuardCloses (s : State) : Result := .next (s.when s.isRunning State.guardClosed)

end Sys2Proof.Machine
end

