-- ==== Sys2Proof/Machine/Dispatch.lean ====
section
/-! DEFINITION. The dispatch: one arm for each command, one direct call of its meaning. -/

namespace Sys2Proof.Machine

def exec (i : Instr) (s : State) : Host.Outcome State Fault Refusal :=
  match i with
  | .powerOn straps => Sys2Proof.Machine.execPowerOn straps s
  | .resetPin straps => Sys2Proof.Machine.execResetPin straps s
  | .status bits released => Sys2Proof.Machine.execStatus bits s released
  | .watch selector released => Sys2Proof.Machine.execWatch selector s released
  | .readLatches bits released => Sys2Proof.Machine.execReadLatches bits s released
  | .writeEnables latches groupMaster => Sys2Proof.Machine.execWriteEnables latches groupMaster s
  | .readJournal bits released => Sys2Proof.Machine.execReadJournal bits s released
  | .readRecord list index bits released => Sys2Proof.Machine.execReadRecord list index bits s released
  | .readMagazine index bits released => Sys2Proof.Machine.execReadMagazine index bits s released
  | .writeParameter id value => Sys2Proof.Machine.execWriteParameter id value s
  | .writeFormat index entry => Sys2Proof.Machine.execWriteFormat index entry s
  | .join => Sys2Proof.Machine.execJoin s
  | .mark kind => Sys2Proof.Machine.execMark kind s
  | .purge tag => Sys2Proof.Machine.execPurge tag s
  | .magazineClear => Sys2Proof.Machine.execMagazineClear s
  | .stop => Sys2Proof.Machine.execStop s
  | .go => Sys2Proof.Machine.execGo s
  | .drain => Sys2Proof.Machine.execDrain s
  | .reset straps => Sys2Proof.Machine.execReset straps s
  | .transactionFrame bytes extraBits => Sys2Proof.Machine.execTransactionFrame bytes extraBits s
  | .frameStart rival recessive => Sys2Proof.Machine.execFrameStart rival s recessive
  | .readbackMismatch => Sys2Proof.Machine.execReadbackMismatch s
  | .structureError cause => Sys2Proof.Machine.execStructureError cause s
  | .flaggedFrame cause => Sys2Proof.Machine.execFlaggedFrame cause s
  | .stopNotice sender reasons => Sys2Proof.Machine.execStopNotice sender reasons s
  | .goNotice sender => Sys2Proof.Machine.execGoNotice sender s
  | .absent sender position => Sys2Proof.Machine.execAbsent sender position s
  | .claim sender cls => Sys2Proof.Machine.execClaim sender cls s
  | .release sender => Sys2Proof.Machine.execRelease sender s
  | .withdraw sender => Sys2Proof.Machine.execWithdraw sender s
  | .handover sender target image => Sys2Proof.Machine.execHandover sender target image s
  | .room sender standing => Sys2Proof.Machine.execRoom sender standing s
  | .void sender key format lacks => Sys2Proof.Machine.execVoid sender key format lacks s
  | .joinNotice sender role digest => Sys2Proof.Machine.execJoinNotice sender role digest s
  | .beacon sender payload => Sys2Proof.Machine.execBeacon sender payload s
  | .silenceTimerExpiry member => Sys2Proof.Machine.execSilenceTimerExpiry member s
  | .joinWindowEnd pins => Sys2Proof.Machine.execJoinWindowEnd pins s
  | .beaconTimerExpiry => Sys2Proof.Machine.execBeaconTimerExpiry s
  | .idFrame bytes => Sys2Proof.Machine.execIdFrame bytes s
  | .readerGapTimeout => Sys2Proof.Machine.execReaderGapTimeout s
  | .readWindowExpiry => Sys2Proof.Machine.execReadWindowExpiry s
  | .encoderCount => Sys2Proof.Machine.execEncoderCount s
  | .entryLeadingEdge => Sys2Proof.Machine.execEntryLeadingEdge s
  | .entryTrailingEdge => Sys2Proof.Machine.execEntryTrailingEdge s
  | .adoptionDistanceExpiry => Sys2Proof.Machine.execAdoptionDistanceExpiry s
  | .transitDistanceExpiry => Sys2Proof.Machine.execTransitDistanceExpiry s
  | .workLeadingEdge edge => Sys2Proof.Machine.execWorkLeadingEdge s edge
  | .exitTrailingEdge edge => Sys2Proof.Machine.execExitTrailingEdge s edge
  | .feedEyeLeadingEdge edge => Sys2Proof.Machine.execFeedEyeLeadingEdge s edge
  | .cycleDone edge => Sys2Proof.Machine.execCycleDone s edge
  | .cycleTimeout => Sys2Proof.Machine.execCycleTimeout s
  | .skipTimeout => Sys2Proof.Machine.execSkipTimeout s
  | .openTimeExpiry place => Sys2Proof.Machine.execOpenTimeExpiry place s
  | .holdOffExpiry => Sys2Proof.Machine.execHoldOffExpiry s
  | .claimWaitLimit => Sys2Proof.Machine.execClaimWaitLimit s
  | .keepwarmDue => Sys2Proof.Machine.execKeepwarmDue s
  | .warmTimerExpiry => Sys2Proof.Machine.execWarmTimerExpiry s
  | .burstEnd => Sys2Proof.Machine.execBurstEnd s
  | .heatPhaseEnd => Sys2Proof.Machine.execHeatPhaseEnd s
  | .setEnd => Sys2Proof.Machine.execSetEnd s
  | .maxSuspendExpiry => Sys2Proof.Machine.execMaxSuspendExpiry s
  | .guardOpens => Sys2Proof.Machine.execGuardOpens s
  | .guardCloses => Sys2Proof.Machine.execGuardCloses s
  | .confirmEyeLeadingEdge edge => Sys2Proof.Machine.execConfirmEyeLeadingEdge s edge
  | .confirmDistanceExpiry => Sys2Proof.Machine.execConfirmDistanceExpiry s

end Sys2Proof.Machine
end

