-- ==== Sys2Proof/Machine/Tick.lean ====
section
/-! DEFINITION. The part's own clock, which runs while no command waits (log entry 3): the expiries that
are due, the passing of one millisecond, and the choice between expiries due together (log entry 4). -/

namespace Sys2Proof.Machine

/-! ### Expiries that are due -/

/-- A timer has run out. -/
def runOut (t : Option Nat) : Bool := t == some 0

/-- A command, if its condition holds. -/
def dueIf (p : Bool) (c : Instr) : List Instr := if p then [c] else []

/-- The input levels found where the part's own clock ends the join window: free (log entry 7). -/
def State.pinsFound (s : State) : InputPins :=
  { entry := Config.pinLevel s.freeCount 0
    work := Config.pinLevel s.freeCount 1
    exit := Config.pinLevel s.freeCount 2
    fourth := Config.pinLevel s.freeCount 3
    guard := Config.pinLevel s.freeCount 4
    done := Config.pinLevel s.freeCount 5 }

/-- The open time of the zone record at an index has run out. -/
def State.zoneOut (s : State) (i : Nat) : Bool :=
  (s.zt.zone[i]?).any fun z => runOut z.book.openTime

/-- The open time of the incoming record at an index has run out. -/
def State.incomingOut (s : State) (i : Nat) : Bool :=
  (s.zt.incoming[i]?).any fun r => runOut r.book.openTime

/-- Expiries due in JOINING and in RUNNING (R50, R89, R136). -/
def State.dueActive (s : State) : List Instr :=
  ((List.finRange 16).flatMap fun p =>
    dueIf (runOut s.mem.silence[p]) (.silenceTimerExpiry p))
  ++ ((List.range s.zt.zone.length).flatMap fun i =>
    dueIf (s.zoneOut i) (.openTimeExpiry (.zone i)))
  ++ ((List.range s.zt.incoming.length).flatMap fun i =>
    dueIf (s.incomingOut i) (.openTimeExpiry (.incoming i)))
  ++ dueIf (runOut s.heat.holdOff) .holdOffExpiry

/-- A cycle of a kind has reached its timeout. -/
def State.cycleOut (s : State) (k : CycleKind) : Bool :=
  s.work.cycle.any fun c => c.kind == k && c.left == 0

/-- The warm timer has run half of K and keep-warm is not due yet (R141). -/
def State.keepwarmOut (s : State) : Bool :=
  !s.heat.due && s.heat.warmLeft.any fun left => decide (left ≤ s.keepwarmMs / 2)

/-- The heat phase has run its length (R152). -/
def State.heatOut (s : State) : Bool :=
  s.work.press == .heat
    && s.work.heat.any fun h => decide ((h.preheat + h.book) * 100 ≤ h.elapsed)

/-- Expiries due in RUNNING only. -/
def State.dueRunning (s : State) : List Instr :=
  dueIf (runOut s.mem.beaconTimer) .beaconTimerExpiry
  ++ dueIf (runOut s.rd.window) .readWindowExpiry
  ++ dueIf (s.zt.zone.any fun z => runOut z.adoption) .adoptionDistanceExpiry
  ++ dueIf (s.zt.incoming.head?.any fun r => r.transit == 0) .transitDistanceExpiry
  ++ dueIf (s.cycleOut .marry) .cycleTimeout
  ++ dueIf (s.cycleOut .skip) .skipTimeout
  ++ dueIf (s.heat.claim == .waiting && runOut s.heat.claimWait) .claimWaitLimit
  ++ dueIf s.keepwarmOut .keepwarmDue
  ++ dueIf (runOut s.heat.warmLeft) .warmTimerExpiry
  ++ dueIf (runOut s.heat.burst) .burstEnd
  ++ dueIf s.heatOut .heatPhaseEnd
  ++ dueIf (s.work.press == .set && runOut s.work.setLeft) .setEnd
  ++ dueIf (s.work.press == .suspended && runOut s.work.suspendLeft) .maxSuspendExpiry
  ++ dueIf (runOut s.work.divert) .confirmDistanceExpiry

/-- The expiries that are due. -/
def State.dueNow (s : State) : List Instr :=
  match s.mem.station with
  | .joining => s.dueActive ++ dueIf (runOut s.mem.joinWindow) (.joinWindowEnd s.pinsFound)
  | .running => s.dueActive ++ s.dueRunning
  | .config | .halted => []

/-! ### One millisecond -/

/-- A timer runs for one millisecond. -/
def runMs (t : Option Nat) : Option Nat := t.map (· - 1)

/-- Open time left and its step after one millisecond: the count falls at the end of each step of 100
ms, and stands at 0 (R81, R89). -/
def runOpenTime (openTime : Option Nat) (step : Nat) : Option Nat × Nat :=
  match openTime with
  | none => (none, step)
  | some 0 => (some 0, step)
  | some (n + 1) => if step + 1 < 100 then (some (n + 1), step + 1) else (some n, 0)

/-- A book record with another open time left. -/
def BookRecord.withOpenTime (t : Option Nat) (b : BookRecord) : BookRecord := { b with openTime := t }

/-- A zone record after one millisecond. -/
def ZoneRecord.runMs (z : ZoneRecord) : ZoneRecord :=
  let r := runOpenTime z.book.openTime z.step
  { z with book := z.book.withOpenTime r.1, step := r.2 }

/-- An incoming record after one millisecond. -/
def IncomingRecord.runMs (i : IncomingRecord) : IncomingRecord :=
  let r := runOpenTime i.book.openTime i.step
  { i with book := i.book.withOpenTime r.1, step := r.2 }

/-- Open time left in the queue and its step after one millisecond (R81): as everywhere, but that the last
step, once it has run to its end, stands there until its expiry is taken (R91, log entry 46). -/
def runQueuedTime (openTime : Option Nat) (step : Nat) : Option Nat × Nat :=
  if openTime = some 1 then (some 1, min 100 (step + 1)) else runOpenTime openTime step

/-- A queued notice after one millisecond: a HANDOVER's open time runs on (R81). -/
def TxEntry.runMs (e : TxEntry) : TxEntry :=
  match e.notice with
  | .handover target b step =>
    let r := runQueuedTime b.openTime step
    { e with notice := .handover target (b.withOpenTime r.1) r.2 }
  | _ => e

/-- The last step of a queued HANDOVER's open time has run to its end: its expiry has come (R81, R91). -/
def Notice.lastStepOver : Notice → Bool
  | .handover _ b step => b.openTime == some 1 && decide (100 ≤ step)
  | _ => false

/-- The expiry of a queued HANDOVER's open time is taken: the count reaches 0 and stays there, with no mark at
the sender (R81). -/
def TxEntry.endOpenTime (e : TxEntry) : TxEntry :=
  match e.notice with
  | .handover target b _ =>
    if e.notice.lastStepOver then { e with notice := .handover target (b.withOpenTime (some 0)) 0 } else e
  | _ => e

/-- The expiries that have come in the queue are taken. -/
def State.endQueuedTimes (s : State) : State :=
  { s with bus.txq := s.bus.txq.map TxEntry.endOpenTime }

/-- A queued HANDOVER's open time has come to its end at a station where it runs (R89). -/
def State.queuedTimeOver (s : State) : Bool := s.isActive && s.bus.txq.any fun e => e.notice.lastStepOver

/-- Every timer of a JOINING or RUNNING station runs for one millisecond, and what the controller drove after
a fault has ended (R22, R23). The count of recessive bit times stands: it moves with the bit times that
FRAME_START brings (R17, R20, log entry 8). -/
def State.runTimers (s : State) : State :=
  { s with
    bus.txq := s.bus.txq.map TxEntry.runMs
    bus.drive := .none
    mem.silence := s.mem.silence.map runMs
    mem.joinWindow := runMs s.mem.joinWindow
    mem.beaconTimer := runMs s.mem.beaconTimer
    zt.zone := s.zt.zone.map ZoneRecord.runMs
    zt.incoming := s.zt.incoming.map IncomingRecord.runMs
    rd.window := runMs s.rd.window
    work.cycle := s.work.cycle.map fun c => { c with left := c.left - 1 }
    work.heat := s.work.heat.map fun h => { h with elapsed := h.elapsed + 1 }
    work.setLeft := runMs s.work.setLeft
    work.suspendLeft := runMs s.work.suspendLeft
    heat.holdOff := runMs s.heat.holdOff
    heat.claimWait := runMs s.heat.claimWait
    heat.warmLeft := runMs s.heat.warmLeft
    heat.burst := runMs s.heat.burst }

/-- One millisecond passes: the stamp counter runs in every station state (R190), the timers in JOINING
and RUNNING (R46, R102). -/
def State.passMs (s : State) : State :=
  let s1 := if s.isActive then s.runTimers else s
  { s1 with port.stamp := s.port.stamp + 1 }

/-! ### The part's own step -/

/-- An expiry that is due is queued as the next command. -/
def State.raise (c : Instr) (s : State) : State :=
  { s with pending := c :: s.pending, freeCount := s.freeCount + 1 }

/-- The step on an empty queue: an expiry that is due is queued, one of several as `Config.pick`
says; with none due the open time that has come to its end in the queue is taken to 0, which no row of the
table does; with none of that either a millisecond passes. -/
def State.idle (s : State) : State :=
  match s.dueNow with
  | [] => if s.queuedTimeOver then s.endQueuedTimes else s.passMs
  | [c] => s.raise c
  | c :: more => s.raise ((c :: more).getD (Config.pick s.freeCount % (more.length + 1)) c)

end Sys2Proof.Machine
end

