-- ==== Sys2Proof/Machine/Transaction.lean ====
section
/-! DEFINITION. The command that the bits of a whole transaction of the station port give at its release
(R179, 12.2). -/

namespace Sys2Proof.Machine

/-- The read command, WATCH among them, that a command byte and well-framed bytes after it give, with select
released after the last of them. -/
def wholeRead (code : Byte) (rest : List Byte) : Option Instr :=
  if code = 0x01 then some (.status (8 * rest.length) true)
  else if code = 0x03 then some (.readLatches (8 * rest.length) true)
  else if code = 0x05 then some (.readJournal (8 * rest.length) true)
  else
    match rest with
    | [] => none
    | a :: tail =>
      if code = 0x02 then some (.watch a true)
      else if code = 0x07 then some (.readMagazine a (8 * tail.length) true)
      else
        match tail with
        | [] => none
        | b :: data =>
          if code = 0x06 then some (.readRecord a b (8 * data.length) true) else none

/-- The command without arguments that a command byte gives; `straps` are the levels found should it be
RESET (R34). -/
def bareCommand (straps : Straps) (code : Byte) : Option Instr :=
  if code = 0x12 then some .join else if code = 0x15 then some .magazineClear
  else if code = 0x16 then some .stop else if code = 0x17 then some .go
  else if code = 0x18 then some .drain else if code = 0x1F then some (.reset straps)
  else none

/-- The command that is not a read which a command byte and its argument bytes give. -/
def wholeWrite (straps : Straps) (code : Byte) (rest : List Byte) : Option Instr :=
  match rest with
  | [] => bareCommand straps code
  | [kind] => if code = 0x13 then some (.mark kind) else none
  | [t0, t1] => if code = 0x14 then some (.purge (word2 t0 t1)) else none
  | [id, v0, v1] => if code = 0x10 then some (.writeParameter id (word2 v0 v1)) else none
  | [l0, l1, l2, groupMaster] =>
    if code = 0x04 then some (.writeEnables (word3 l0 l1 l2) groupMaster) else none
  | [index, valid, n0, n1, tolerance, h0, h1, t0, t1] =>
    if code = 0x11 then
      some (.writeFormat index ⟨valid, word2 n0 n1, tolerance, word2 h0 h1, word2 t0 t1⟩)
    else none
  | _ => none

/-- The command that a transaction gives at its release: TRANSACTION_FRAME where it is badly framed, else the
command its bytes spell. `extraBits`, below 8, are the bits of a broken last byte. Select driven low and
released with no bit clocked gives no command, and the last command result stays: the model's choice (log
entry 58). -/
def transactionCommand (straps : Straps) (bytes : List Byte) (extraBits : Nat) : Option Instr :=
  if transactionBroken bytes extraBits then some (.transactionFrame bytes extraBits)
  else
    match bytes with
    | [] => none
    | code :: rest => wholeRead code rest <|> wholeWrite straps code rest

/-- The command that the levels sampled on the data input in one transaction give: each eight make a byte, most
significant bit first, and fewer left over break the last byte (R179). -/
def transactionOfBits (straps : Straps) (bits : List Bool) : Option Instr :=
  transactionCommand straps (bytesOf (bits.length / 8) bits) (bits.length % 8)

end Sys2Proof.Machine
end

