-- ==== Sys2Proof/Safety.lean ====
section
/-! DEFINITION. What every reachable state obeys: the capacities, the laws of the bus and of the quiet
states, the order of the zone list, the laws of book records, and the laws of the share table. -/

namespace Sys2Proof.Machine

/-! ### Capacities -/

/-- No list passes its capacity (R28, R57, R105, R111, R190). -/
def State.withinCapacity (s : State) : Prop :=
  s.bus.txq.length ≤ Config.txqCap ∧ s.zt.zone.length ≤ Config.zoneCap
    ∧ s.zt.incoming.length ≤ Config.incomingCap
    ∧ s.parts.magazine.length ≤ Config.magazineCap ∧ s.parts.voids.length ≤ Config.voidCap
    ∧ s.port.journal.length ≤ Config.journalCap

/-! ### The bus -/

/-- The frame this station sends, or has begun and loses, belongs to a notice of its queue (R20). -/
def State.frameQueued (s : State) : Prop :=
  match s.bus.frame with
  | .sending place k _ | .losing place k _ =>
    (s.bus.txq[place]?).map (fun e => e.notice.kind) = some k
  | .none | .receiving => True

/-- The controller is attached exactly in JOINING and RUNNING; detached, its queue is empty, no frame is in
progress and it drives nothing (R17, R28, R41, R46); the recessive count stays within the quiet gap (R20);
no queued notice has failed eight times (R25). -/
def State.busLawful (s : State) : Prop :=
  (s.bus.attached = true ↔ s.isActive)
    ∧ (¬ s.isActive → s.bus.txq = [] ∧ s.bus.frame = .none ∧ s.bus.drive = .none)
    ∧ s.bus.quiet ≤ Config.quietGap
    ∧ s.frameQueued ∧ ∀ e ∈ s.bus.txq, e.failures < Config.failureLimit

/-! ### The states in which the station does not work -/

/-- A configuration that JOIN accepts (R38). -/
def ParamStore.joinable (p : ParamStore) : Prop := p.offendingItem = none

/-- In CONFIG everything but the parameters, the tag counter, draining and the port stands as reset left
it (R41, R53). -/
def State.configLawful (s : State) : Prop :=
  s.mem.station = .config →
    s.mem = Membership.atReset s.mem.resetCause ∧ s.bus = LineBus.atReset
      ∧ s.zt = { ZoneTracker.atReset s.zt.tagCounter with draining := s.zt.draining }
      ∧ s.rd = Reader.atReset ∧ s.parts = PartMagazine.atReset
      ∧ s.work = WorkSequencer.atReset ∧ s.heat = HeatShare.atReset
      ∧ s.params.digest = 0

/-- In JOINING no record stands in the zone, no part has arrived, and no work, reader or beacon timer
runs (R42, R75, R125, R165). -/
def State.joiningLawful (s : State) : Prop :=
  s.mem.station = .joining →
    s.zt.zone = [] ∧ s.parts.magazine = [] ∧ s.work = WorkSequencer.atReset
      ∧ s.rd = Reader.atReset ∧ s.mem.beaconTimer = none

/-- The parameters are locked with values in range in every state but CONFIG (R39). -/
def State.paramsLawful (s : State) : Prop := s.mem.station ≠ .config → s.params.joinable

/-- The three laws of the states in which the station does not work. -/
def State.quietLawful (s : State) : Prop :=
  s.configLawful ∧ s.joiningLawful ∧ s.paramsLawful

/-! ### The zone list -/

/-- The order of the phases: WORKED before AT_WORK before ENTERING. -/
def Phase.rank : Phase → Nat
  | .worked => 0 | .atWork => 1 | .entering => 2

/-- `a` may stand before `b` in a zone list, and not both are AT_WORK (R57). -/
def mayPrecede (a b : ZoneRecord) : Prop :=
  a.phase.rank ≤ b.phase.rank ∧ ¬ (a.phase = .atWork ∧ b.phase = .atWork)

/-- The zone list keeps its order, has at most one record AT_WORK, counts at most one length, and only an
ENTERING record is adoptable (R57, R59, R67). -/
def State.zoneLawful (s : State) : Prop :=
  s.zt.zone.Pairwise mayPrecede ∧ (s.zt.zone.filter ZoneRecord.counting).length ≤ 1
    ∧ ∀ z ∈ s.zt.zone, z.adoption ≠ none → z.phase = .entering

/-! ### Book records -/

/-- The laws of a book record that this station can keep (R1, R3, R5, R6, R7). -/
def BookRecord.lawful (b : BookRecord) : Prop :=
  b.marks.length ≤ Config.markCap ∧ (b.verdict = .reject ↔ b.marks ≠ [])
    ∧ (b.key.isSome ↔ b.copy.isSome) ∧ (b.format.isSome → b.key.isSome)
    ∧ (b.openTime.isSome → b.verdict = .good ∧ b.caseMarriage.isSome)
    ∧ (b.openTime.getD 0 ≤ 3000) ∧ b.heatDone ≤ 6000
    ∧ (b.jacketMarriage.isSome → b.caseMarriage.isSome ∧ b.pressed = true)

/-- The record a notice carries, if it is a HANDOVER, is lawful. -/
def Notice.lawful : Notice → Prop
  | .handover _ b _ => b.lawful
  | .stop _ | .go | .absent _ | .claim _ | .release | .withdraw | .room _ | .void _ _ _ _
  | .join _ _ | .beacon => True

/-- A record that a JACKET station waits for, skips for or jackets is cased and pressed (R166). -/
def State.jacketRecordLawful (s : State) : Prop :=
  s.work.parts ≠ .idle ∨ s.work.cycle.any Cycle.owned = true →
    ∃ z, s.atWork? = some z ∧ z.book.caseMarriage.isSome ∧ z.book.pressed = true

/-- Each kind of work is done at its own role: no matching but at CASE and JACKET, and at JACKET no press
work, no heat share and no divert (R34, R113, R148, R127, R172). -/
def State.workLawful (s : State) : Prop :=
  (s.hasMagazine = false → s.work.parts = .idle)
    ∧ (s.role = some .jacket →
        s.work.press = .idle ∧ s.heat = HeatShare.atReset ∧ s.work.divert = none
          ∧ s.jacketRecordLawful)

/-- Every record this station holds is lawful (R1, R6): in its lists and in its transmit queue. -/
def State.recordsLawful (s : State) : Prop :=
  (∀ z ∈ s.zt.zone, z.book.lawful) ∧ (∀ r ∈ s.zt.incoming, r.book.lawful)
    ∧ (∀ e ∈ s.bus.txq, e.notice.lawful) ∧ s.workLawful ∧ s.paramsLawful
    ∧ s.zoneLawful

/-! ### The share table -/

/-- A KEEPWARM entry may stand anywhere before a BOOK entry (R127). -/
def waitOrder (a b : WaitEntry) : Prop := a.cls = .keepwarm ∨ b.cls = .book

/-- The laws of the share table (R127), with the property its rules keep: claims wait only while the
holders are full. -/
def State.sharesLawful (s : State) : Prop :=
  s.heat.holders.length ≤ s.heatBudget
    ∧ (s.heat.holders ++ s.heat.waits.map WaitEntry.position).Nodup
    ∧ s.heat.waits.Pairwise waitOrder
    ∧ (s.heat.waits ≠ [] → s.heat.holders.length = s.heatBudget)

/-! ### Frames that complete -/

/-- The sender, kind and payload of the frame a notice command completes. -/
def completedFrame : Instr → Option (Pos × NoticeKind × List Byte)
  | .stopNotice p r => some (p, .stop, [r])
  | .goNotice p => some (p, .go, [])
  | .absent p q => some (p, .absent, [q])
  | .claim p c => some (p, .claim, [c])
  | .release p => some (p, .release, [])
  | .withdraw p => some (p, .withdraw, [])
  | .handover p t image => some (p, .handover, t :: image.toList)
  | .room p r => some (p, .room, [r])
  | .void p k f l => some (p, .void, bytes3 k ++ [f, l])
  | .joinNotice p r d => some (p, .join, r :: bytes2 d)
  | .beacon p payload => if beaconLengthKnown payload.length then some (p, .beacon, payload) else none
  | _ => none

/-- The bus once a frame has ended: none in progress, the quiet gap counted afresh (R20), and `d` driven for
it (R22, R23). -/
def State.frameEnded (s : State) (d : Drive := .none) : State :=
  { s with bus.frame := .none, bus.quiet := 0, bus.drive := d }

/-- This station sent the completed frame, for the notice at `place` of its queue (R27). -/
def State.sentAt (s : State) (place : Nat) (p : Pos) (k : NoticeKind) (payload : List Byte) : Prop :=
  p = s.own ∧ s.bus.frame = .sending place k payload

/-- A completed frame is applied (R26): the controller is attached, it took the frame's start (R20), and the
frame is another station's at a station whose own JOIN has been applied, or one this station sent, whose
notice then leaves the queue before its effects, the model's choice (log entry 40). `t0` is the state in which the notice's effect begins: the frame has ended, and an ABSENT naming the
sender has left the queue (R31). -/
def State.takesFrame (s : State) (p : Pos) (k : NoticeKind) (payload : List Byte) (t0 : State) :
    Prop :=
  s.bus.attached = true ∧ s.bus.frame ≠ .none ∧
    ((p ≠ s.own ∧ ¬ (s.mem.station = .joining ∧ s.mem.joinWindow = none) ∧
        t0 = { s.frameEnded with
          bus.txq := s.bus.txq.filter fun e => e.notice != .absent p }) ∨
      ∃ place, s.sentAt place p k payload ∧
        t0 = { s.frameEnded with
          bus.txq := (s.bus.txq.eraseIdx place).filter fun e => e.notice != .absent p })

/-- The silence timer of a member restarts at the limit of its status; none runs for the own position, nor
for a member UNKNOWN or ABSENT (R50). -/
def State.silenceRestarted (s : State) (p : Pos) : State :=
  if p = s.own then s
  else { s with
    mem.silence := s.mem.silence.set p.val
      (match (s.mem.members[p]).status with
       | .running => some (s.absenceLimit * s.beaconPeriod)
       | .joining => some ((s.absenceLimit + 3) * s.beaconPeriod)
       | .unknown | .absent => none) p.isLt }

/-- The line's standing after the stop set has become `stops` through position `p`: a change sets its latch
and is journalled with the position (R100). -/
def State.linePort (s : State) (stops : Vector Reasons 16) (p : Pos) : PortUnit :=
  if stopSetEmpty s.mem.stopSet ∧ ¬ stopSetEmpty stops then
    (s.port.setLatch .lineStopped).append .lineStopped 0 (.value (posNumber p))
  else if ¬ stopSetEmpty s.mem.stopSet ∧ stopSetEmpty stops then
    (s.port.setLatch .lineRunning).append .lineRunning 0 (.value (posNumber p))
  else s.port

/-- The share table once a position has left it, where the table is lawful (R129, R130, R131): a holder's
place goes to the head of the wait list, a waiting entry is removed. -/
def tableWithout (q : Pos) (h : HeatShare) : List Pos × List WaitEntry :=
  if q ∈ h.holders then
    match h.waits with
    | [] => (h.holders.filter (· ≠ q), [])
    | e :: rest => (addHolder e.position (h.holders.filter (· ≠ q)), rest)
  else (h.holders, h.waits.filter fun e => e.position ≠ q)

/-- The removal of a position grants a share to this station: it stands at the head of the wait list behind
a holder that leaves. -/
def State.grantedBy (s : State) (q : Pos) : Prop :=
  q ∈ s.heat.holders ∧ s.heat.waits.head?.map WaitEntry.position = some s.own

end Sys2Proof.Machine
end

