-- ==== Sys2Proof/Certificates/Slice0/Obligations.lean ====
section
/-! DEFINITION. The statements about this part, for the provers. -/

section
open Sys2Proof Sys2Proof.Machine

/-! ### The machine: its step, its clock, its resets -/

/-- The three kinds of reset. -/
def isReset (c : Instr) : Prop :=
  ∃ straps, c = .powerOn straps ∨ c = .resetPin straps ∨ c = .reset straps

/-- A step takes the command at the front of the queue and is that command's effect on the state with the
queue's rest; no command stops the machine, every one answers a next state. -/
def Obligations.StepRunsTheFrontCommand : Prop :=
  ∀ (c : Instr) (rest : List Instr) (s : State),
    step { s with pending := c :: rest } = exec c { s with pending := rest } ∧
    ∃ t, exec c { s with pending := rest } = .next t

/-- A timer with one millisecond less to run. -/
def oneLess (timer : Option Nat) : Option Nat := timer.map (· - 1)

/-- Open time left in ds and the milliseconds that its step has run, one millisecond later: at the end of each
step of 100 ms open time falls by 1 ds, and at 0 it stands (R81, R89). -/
def openTimeRun (openTime : Option Nat) (step : Nat) : Option Nat × Nat :=
  match openTime with
  | none => (none, step)
  | some 0 => (some 0, step)
  | some (n + 1) => if step + 1 < 100 then (some (n + 1), step + 1) else (some n, 0)

/-- The last ds of a queued HANDOVER has run to its end, and its expiry is not yet taken (R81, R91). -/
def lastDsOver (n : Notice) : Prop :=
  ∃ target b step, n = .handover target b step ∧ b.openTime = some 1 ∧ 100 ≤ step

/-- A queued notice once the expiry of its open time is taken: the count is 0 (R81). -/
def noticeEnds : Notice → Notice
  | .handover target b step =>
    if b.openTime = some 1 ∧ 100 ≤ step then .handover target { b with openTime := some 0 } 0
    else .handover target b step
  | n => n

/-- A queued notice one millisecond later: open time runs on in a HANDOVER (R81), its last ds up to its end. -/
def noticeRun : Notice → Notice
  | .handover target b step =>
    if b.openTime = some 1 then .handover target b (min 100 (step + 1))
    else .handover target { b with openTime := (openTimeRun b.openTime step).1 }
      (openTimeRun b.openTime step).2
  | n => n

/-- A JOINING or RUNNING station one millisecond later, no expiry being due. -/
def msPassed (s : State) : State :=
  { s with
    bus := { s.bus with
      txq := s.bus.txq.map fun e => { e with notice := noticeRun e.notice }
      drive := .none }
    mem := { s.mem with
      silence := s.mem.silence.map oneLess
      joinWindow := oneLess s.mem.joinWindow, beaconTimer := oneLess s.mem.beaconTimer }
    zt := { s.zt with
      zone := s.zt.zone.map fun z => { z with
        book := { z.book with openTime := (openTimeRun z.book.openTime z.step).1 }
        step := (openTimeRun z.book.openTime z.step).2 }
      incoming := s.zt.incoming.map fun r => { r with
        book := { r.book with openTime := (openTimeRun r.book.openTime r.step).1 }
        step := (openTimeRun r.book.openTime r.step).2 } }
    rd := { s.rd with window := oneLess s.rd.window }
    work := { s.work with
      cycle := s.work.cycle.map fun c => { c with left := c.left - 1 }
      heat := s.work.heat.map fun h => { h with elapsed := h.elapsed + 1 }
      setLeft := oneLess s.work.setLeft, suspendLeft := oneLess s.work.suspendLeft }
    heat := { s.heat with
      holdOff := oneLess s.heat.holdOff, claimWait := oneLess s.heat.claimWait
      warmLeft := oneLess s.heat.warmLeft, burst := oneLess s.heat.burst }
    port.stamp := s.port.stamp + 1 }

/-- The expiry that a command tells of is due: its timer, countdown or distance has run out (R13, R43, R45,
R50, R61, R64, R89, R118, R119, R136, R137, R140 to R142, R152, R154, R161, R174). -/
def expiryDue (s : State) (c : Instr) : Prop :=
  let running := s.mem.station = .running
  let active := s.mem.station = .joining ∨ running
  let cycleOut (k : CycleKind) : Prop := ∃ w ∈ s.work.cycle, w.kind = k ∧ w.left = 0
  match c with
  | .silenceTimerExpiry p => active ∧ s.mem.silence[p] = some 0
  | .openTimeExpiry (.zone i) => active ∧ ∃ z ∈ s.zt.zone[i]?, z.book.openTime = some 0
  | .openTimeExpiry (.incoming i) => active ∧ ∃ r ∈ s.zt.incoming[i]?, r.book.openTime = some 0
  | .holdOffExpiry => active ∧ s.heat.holdOff = some 0
  | .joinWindowEnd pins =>
    s.mem.station = .joining ∧ s.mem.joinWindow = some 0 ∧ pins = s.pinsFound
  | .beaconTimerExpiry => running ∧ s.mem.beaconTimer = some 0
  | .readWindowExpiry => running ∧ s.rd.window = some 0
  | .adoptionDistanceExpiry => running ∧ ∃ z ∈ s.zt.zone, z.adoption = some 0
  | .transitDistanceExpiry => running ∧ ∃ r ∈ s.zt.incoming.head?, r.transit = 0
  | .cycleTimeout => running ∧ cycleOut .marry
  | .skipTimeout => running ∧ cycleOut .skip
  | .claimWaitLimit => running ∧ s.heat.claim = .waiting ∧ s.heat.claimWait = some 0
  | .keepwarmDue =>
    running ∧ s.heat.due = false ∧ ∃ left ∈ s.heat.warmLeft, left ≤ s.keepwarmMs / 2
  | .warmTimerExpiry => running ∧ s.heat.warmLeft = some 0
  | .burstEnd => running ∧ s.heat.burst = some 0
  | .heatPhaseEnd =>
    running ∧ s.work.press = .heat ∧ ∃ h ∈ s.work.heat, (h.preheat + h.book) * 100 ≤ h.elapsed
  | .setEnd => running ∧ s.work.press = .set ∧ s.work.setLeft = some 0
  | .maxSuspendExpiry => running ∧ s.work.press = .suspended ∧ s.work.suspendLeft = some 0
  | .confirmDistanceExpiry => running ∧ s.work.divert = some 0
  | _ => False

/-- The part's own clock on an empty queue (the model's choice, log entries 3, 4, 8, 33, 34 and
46): an expiry
that is due is queued alone; with none due one millisecond passes. In JOINING and RUNNING each running timer
is then 1 ms lower, a heat phase has run 1 ms more, open time falls by 1 ds at the end of each step of 100
ms, and what the controller drove after a fault has ended; nothing else changes, the count of recessive bit
times not excepted (log entry 8). The last ds of a HANDOVER in the queue, run to its end, becomes 0 in a step of
its own (log entry 46). The stamp counter runs in every station state, and in CONFIG and HALTED
nothing else does (R89, R102, R190, R46). -/
def Obligations.EmptyQueueRunsTheClock : Prop :=
  ∀ s : State, s.pending = [] →
    ((∃ c, expiryDue s c) → ∃ c, expiryDue s c ∧
      step s = .next { s with pending := [c], freeCount := s.freeCount + 1 }) ∧
    ((∀ c, ¬ expiryDue s c) →
      (s.mem.station = .joining ∨ s.mem.station = .running →
        ((∀ e ∈ s.bus.txq, ¬ lastDsOver e.notice) → step s = .next (msPassed s)) ∧
        ((∃ e ∈ s.bus.txq, lastDsOver e.notice) → step s = .next { s with
          bus.txq := s.bus.txq.map fun e => { e with notice := noticeEnds e.notice } })) ∧
      (s.mem.station = .config ∨ s.mem.station = .halted →
        step s = .next { s with port.stamp := s.port.stamp + 1 }))

/-- What the tables of R53, R76, R93, R104, R125, R147, R165, R178 and R192 leave after a reset of a kind,
written out; the valid byte 0 of a format entry is the model's choice (log entry 29). -/
def resetTables (cause : ResetCause) (tag : W16) (straps : Straps) (s : State) : State :=
  { params :=
      { straps, line := #v[500, 2, 250, 3, 60, 20, 80, 45]
        station := #v[2, 1, 0, 0, 0, 0, 192, 300, 800, 10, 2, 30, 2, 4, 2, 200, 15, 10, 30, 300]
        formats := Vector.replicate 16 ⟨0, 100, 0, 5, 0⟩, digest := 0, offending := 255 }
    bus := { attached := false, txq := [], frame := .none, drive := .none, quiet := 0 }
    mem :=
      { station := .config, resetCause := cause, haltReason := .none
        members := Vector.replicate 16 ⟨.unknown, none, false⟩
        silence := Vector.replicate 16 none, joinWindow := none, stopAdopted := false
        shareAdopted := false, beaconTimer := none
        stopSet := Vector.replicate 16 ⟨false, false, false, false, false⟩
        ownStop := ⟨false, false, false, false, false⟩, guardOpen := false }
    zt :=
      { zone := [], incoming := [], lengthCount := 0, eyes := ⟨false, false, false, false⟩
        roomHeard := Vector.replicate 16 false, roomOpen := true, announced := none
        tagCounter := tag, draining := false }
    rd := { slot := none, window := none, assembly := [] }
    parts := { magazine := [], voids := [], doubt := false, arrival := 0, low := true, high := false }
    work :=
      { parts := .idle, matchIndex := none, cycle := none, doneOn := false, press := .idle
        book := ⟨0, 0, false, false, false⟩, heat := none, setLeft := none, suspendLeft := none
        divert := none }
    heat :=
      { holders := [], waits := [], claim := .none, use := .none, pendingBook := false
        holdOff := none, claimWait := none, warm := false, warmLeft := none, due := false
        burst := none }
    port :=
      { watch := none, reading := none, dataOut := [], result := .accepted, latches := Vector.replicate 17 false
        since := Vector.replicate 17 false, enables := Vector.replicate 17 false
        groups := Vector.replicate 4 false, master := false, journal := [], stamp := 0
        retired := 0, passed := 0, diverted := 0 }
    freeCount := s.freeCount, pending := s.pending }

/-- Every output pin is off (R46, R53). -/
def outputsOff (t : State) : Prop :=
  t.conveyorRun = false ∧ t.exitHold = false ∧ t.workStop = false ∧ t.cycleStart = false
    ∧ t.skipOutput = false ∧ t.clamp = false ∧ t.heater = false ∧ t.feederStop = false
    ∧ t.divertOutput = false ∧ t.admitOutput = false

/-- The three resets put the station into CONFIG with the values of the reset tables and every output
off; the tag counter is 1 after power-on and keeps its value otherwise (R53, R14). -/
def Obligations.ResetsLeaveTheResetTables : Prop :=
  ∀ (straps : Straps) (s : State),
    exec (.powerOn straps) s = .next (resetTables .powerOn 1 straps s) ∧
    exec (.resetPin straps) s = .next (resetTables .pin s.zt.tagCounter straps s) ∧
    exec (.reset straps) s = .next (resetTables .command s.zt.tagCounter straps s) ∧
    ∀ cause tag, outputsOff (resetTables cause tag straps s) ∧
      (resetTables cause tag straps s).attention = false

/-! ### The station port: reads -/

/-- No transaction is open at the station port. -/
def portFree (s : State) : Prop := s.port.watch = none ∧ s.port.reading = none

/-- The read `c` goes on at `r`: its transaction is open and stands at `r`, or none is open and `r` is what its
beginning fixes, with the image and the refusal given. -/
def readAt (c : PortRead) (image : List Byte) (refusal : Option PortResult) (s : State)
    (r : Reading) : Prop :=
  (s.port.reading = some r ∧ r.command = c) ∨
    (portFree s ∧ r = ⟨c, image, 0, refusal, s.port.latches, false⟩)

/-- Select is released with the read `r` open after `total` bits (R179, R180): the transaction ends, with FRAME
within a byte, else with the read's refusal if it has one. -/
def readReleased (r : Reading) (total : Nat) (s : State) : State :=
  { s with
    port.watch := none, port.reading := none
    port.result := if total % 8 = 0 then r.refusal.getD s.port.result else .frame }

/-- `more` bits of the fixed image of `r` have gone out behind those before, then zeros, and select is released
or held (R179). -/
def imageShifted (r : Reading) (more : Nat) (released : Bool) (s : State) : State :=
  let total := r.bits + more
  let shown : State := { s with
    port.dataOut := (r.image.flatMap byteBits ++ List.replicate total false).take total }
  if released then readReleased r total shown
  else { shown with port.reading := some { r with bits := total } }

/-- The downstream peer: the member of lowest position above the station's own that is not UNKNOWN (R78). -/
def peerIs (s : State) (p : Pos) : Prop :=
  s.own < p ∧ (s.mem.members[p]).status ≠ .unknown ∧
    ∀ q : Pos, s.own < q → q < p → (s.mem.members[q]).status = .unknown

/-- Status bytes 39 and 40: standings, outputs and the downstream peer (R78, R182). -/
def statusZoneBytes (s : State) : Prop :=
  s.statusImage[39]? = some (nat1 (bitAt 0 s.zt.roomOpen
    + (match s.zt.announced with | none => 0 | some false => 2 | some true => 4)
    + bitAt 3 s.peerOpen + bitAt 4 s.exitHold + bitAt 5 s.workStop + bitAt 6 s.conveyorRun
    + bitAt 7 s.zt.draining)) ∧
  (∀ p, peerIs s p → s.statusImage[40]? = some (nat1 (p.val + 1))) ∧
  ((∀ p, ¬ peerIs s p) → s.statusImage[40]? = some 0)

/-- Status bytes 45 to 48: the role's work state and the record at work (12.2). -/
def statusWorkBytes (s : State) : Prop :=
  (s.role = some .infeed → s.statusImage[45]? = some (nat1 (bitAt 0 s.rd.window.isSome))) ∧
  (s.role = some .case ∨ s.role = some .jacket →
    s.statusImage[45]? = some (nat1 s.work.parts.code)) ∧
  (s.role = some .press → s.statusImage[45]? = some (nat1 s.work.press.code)) ∧
  (s.role = some .gate → s.statusImage[45]? = some (nat1 (bitAt 0 s.work.divert.isSome))) ∧
  (s.role = none → s.statusImage[45]? = some 0) ∧
  (s.statusImage.drop 46).take 3 =
    match s.atWork? with
    | none => [0, 0, 0]
    | some z => 1 :: bytes2 z.book.tag

/-- Status bytes 49 to 52, parts, and 53 to 74, heat: zero at a station of another role (12.2, R194). -/
def statusRoleBytes (s : State) : Prop :=
  (s.statusImage.drop 49).take 4 =
    (if s.role = some .case ∨ s.role = some .jacket then
      [nat1 s.parts.magazine.length, nat1 s.parts.voids.length,
        nat1 (bitAt 0 s.parts.doubt + bitAt 1 s.parts.low + bitAt 2 s.parts.high
          + bitAt 3 s.feederStop), s.parts.arrival]
    else [0, 0, 0, 0]) ∧
  (s.role ≠ some .press → (s.statusImage.drop 53).take 22 = List.replicate 22 0) ∧
  (s.role = some .press → (s.statusImage.drop 53).take 22 =
    [nat1 (s.heat.claim.code + s.heat.use.code * 16),
      nat1 (bitAt 0 s.heat.pendingBook + bitAt 1 s.heat.holdOff.isSome
        + bitAt 2 s.heat.claimWait.isSome + bitAt 3 s.heat.warm + bitAt 4 s.heater
        + bitAt 5 s.clamp),
      if s.own ∈ s.heat.holders then 1
      else if ∃ e ∈ s.heat.waits, e.position = s.own then 2 else 0,
      nat1 (((s.heat.waits.findIdx? fun e => e.position == s.own).map (· + 1)).getD 0)]
    ++ nat2 (holderNat s.heat.holders) ++ [nat1 s.heat.waits.length]
    ++ (s.heat.waits.map waitByte ++ List.replicate 15 0).take 15)

/-- STATUS shifts out the 81-byte status image as it stood when the transaction began, then zeros, in every
station state. It changes no state, and the last command result only where select is released within a byte
(R182, R179, R180). Each byte goes out most significant bit first. What has been shifted out stands in the
model's own record of the data output; a transaction may stay open from one command to the next (log entries
2 and 30). The bytes of the image are those of 12.2 and R194; that byte 40 gives the downstream peer as 1 to
16 is the model's reading (log entry 50). -/
def Obligations.StatusShiftsOutItsImage : Prop :=
  (∀ (bits : Nat) (released : Bool) (s : State) (r : Reading),
    readAt .status s.statusImage none s r →
    exec (.status bits released) s = .next (imageShifted r bits released s)) ∧
  ∀ s : State,
    s.statusImage.length = 81 ∧
    s.statusImage.take 4 = [nat1 s.mem.station.code, nat1 s.mem.resetCause.code,
      nat1 s.mem.haltReason.code,
      nat1 (s.params.straps.role.toNat + bitAt 3 s.params.straps.isEnd + s.own.val * 16)] ∧
    (s.statusImage.drop 4).take 3 = bytes2 s.params.digest ++ [s.params.offending] ∧
    s.statusImage[7]? = some (nat1 s.port.result.code) ∧
    s.statusImage[8]? = some (nat1 (bitAt 0 s.lineRunning)) ∧
    s.statusImage[9]? = some (nat1 s.mem.ownStop.toNat) ∧
    (s.statusImage.drop 10).take 10 = stopSetBytes s.mem.stopSet ∧
    (s.statusImage.drop 20).take 16 = s.mem.members.toList.map memberByte ∧
    (s.statusImage.drop 36).take 3 = [nat1 s.zt.zone.length, nat1 s.zt.incoming.length,
      BitVec.ofInt 8 (8 - (s.zt.zone.length + s.zt.incoming.length : Nat))] ∧
    statusZoneBytes s ∧
    (s.statusImage.drop 41).take 4 =
      (match s.rd.slot with | none => [0, 0, 0, 0] | some id => 1 :: bytes3 id.key) ∧
    statusWorkBytes s ∧ statusRoleBytes s ∧
    (s.statusImage.drop 75).take 6 =
      bytes2 s.port.retired ++ bytes2 s.port.passed ++ bytes2 s.port.diverted

/-- READ RECORD shifts out the station-held state and the record image of the record its arguments name;
where they name none it is refused REFUSED_RANGE with the empty image. READ MAGAZINE shifts out the
magazine or void entry its index names; at a station without a magazine it is refused REFUSED_STATE,
and for an index at or beyond the list REFUSED_RANGE, each with the empty image (R184, R185, R181,
R194). The bytes shifted out stand in the model's record of the data output, and a transaction may stay
open from one command to the next (log entries 2 and 30). That the refusal is fixed with the image is the
model's reading of R180 (log entry 49). -/
def Obligations.ReadsShowTheItemNamed : Prop :=
  (∀ (list index : Byte) (bits : Nat) (released : Bool) (s : State) (r : Reading),
    let shows (image : List Byte) (refusal : Option PortResult) : Prop :=
      readAt (.record list index) image refusal s r →
      exec (.readRecord list index bits released) s = .next (imageShifted r bits released s)
    (∀ z, list = 0 → s.zt.zone[index.toNat]? = some z → shows
      ([nat1 z.phase.code,
          nat1 (bitAt 0 z.adoption.isSome + bitAt 1 z.counting + bitAt 2 z.divertFailed)]
        ++ absent2 (z.adoption.map (· / s.scale))
        ++ recordImage z.book (openTimeShown z.book.openTime z.step)) none) ∧
    (∀ i, list = 1 → s.zt.incoming[index.toNat]? = some i → shows
      ([4, 0] ++ nat2 (i.transit / s.scale)
        ++ recordImage i.book (openTimeShown i.book.openTime i.step)) none) ∧
    ((list = 0 → s.zt.zone.length ≤ index.toNat) →
      (list = 1 → s.zt.incoming.length ≤ index.toNat) →
      shows (List.replicate 28 0) (some .refusedRange))) ∧
  ∀ (index : Byte) (bits : Nat) (released : Bool) (s : State) (r : Reading),
    let shows (image : List Byte) (refusal : Option PortResult) : Prop :=
      readAt (.magazine index) image refusal s r →
      exec (.readMagazine index bits released) s = .next (imageShifted r bits released s)
    (¬ (s.role = some .case ∨ s.role = some .jacket) →
      shows (List.replicate 6 0) (some .refusedState)) ∧
    (s.role = some .case ∨ s.role = some .jacket →
      (∀ e, index.toNat < 24 → s.parts.magazine[index.toNat]? = some e → shows
        ([if e.waiting then 2 else 1, e.arrival] ++ keyBytes e.key ++ [formatByte e.format]) none) ∧
      (∀ v, 24 ≤ index.toNat → index.toNat < 40 → s.parts.voids[index.toNat - 24]? = some v →
        shows ([3, 0] ++ bytes3 v.key ++ [formatByte v.format]) none) ∧
      ((index.toNat < 24 → s.parts.magazine.length ≤ index.toNat) →
        (24 ≤ index.toNat → index.toNat < 40 → s.parts.voids.length ≤ index.toNat - 24) →
        shows (List.replicate 6 0) (some .refusedRange)))

/-- READ LATCHES takes its snapshot as it begins, which lowers every set-since-snapshot mark, shifts it out,
and with the last bit of the image clears every latch that was set in the snapshot and whose mark is still
lowered, no other (R189). Clocked in two pieces it does what it does in one, and events may come between
them (log entry 2). That the latches stay cleared where select is released within a later byte, the read
then ending in FRAME, is the model's reading: R189 says of a release within a byte that it clears nothing
(log entry 16). -/
def Obligations.ReadLatchesClearsWhatItShowed : Prop :=
  (∀ s : State, portFree s →
    exec (.readLatches 0 false) s = .next { s with
      port.dataOut := []
      port.since := Vector.replicate 17 false
      port.reading := some
        ⟨.latches, latchImage s.port.latches, 0, none, s.port.latches, false⟩ }) ∧
  (∀ (bits : Nat) (released : Bool) (s : State) (r : Reading),
    s.port.reading = some r → r.command = .latches →
    exec (.readLatches bits released) s = .next { imageShifted r bits released s with
      port.latches := if r.bits < 24 ∧ 24 ≤ r.bits + bits then
          Vector.ofFn fun k =>
            if r.snapshot[k] = true ∧ s.port.since[k] = false then false else s.port.latches[k]
        else s.port.latches }) ∧
  ∀ (a b : Nat) (released : Bool) (s t : State), exec (.readLatches a false) s = .next t →
    exec (.readLatches (a + b) released) s = exec (.readLatches b released) t

/-- READ JOURNAL shifts out the entries oldest first. As an entry's first byte begins, the head is copied, the
empty image with an empty journal; as its last byte ends, the head is removed if it is still the entry
copied. Read from its beginning in one command it shifts out the journal, then zeros, and removes exactly
the entries whose last byte has gone. Clocked in two pieces it does what it does in one, and entries may
be appended or discarded between them (R191; log entry 2). -/
def Obligations.ReadJournalRemovesWhatWentOut : Prop :=
  (∀ s : State, portFree s → exec (.readJournal 0 false) s = .next { s with
    port.dataOut := []
    port.reading := some ⟨.journal, [], 0, none, s.port.latches, false⟩ }) ∧
  (∀ (bits : Nat) (s : State) (r : Reading), s.port.reading = some r → r.command = .journal →
    0 < bits → r.bits % 64 + bits ≤ 64 →
    let begun := r.bits % 64
    let image := if begun ≠ 0 then r.image
      else match s.port.journal with
        | [] => List.replicate 8 0
        | e :: _ => journalImage e
    let standing := if begun ≠ 0 then r.copied else !s.port.journal.isEmpty
    exec (.readJournal bits false) s = .next { s with
      port.dataOut := s.port.dataOut ++ ((image.flatMap byteBits).drop begun).take bits
      port.journal := if begun + bits = 64 ∧ standing = true then s.port.journal.tail
        else s.port.journal
      port.reading := some { r with
        image := image, bits := r.bits + bits
        copied := standing && decide (begun + bits < 64) } }) ∧
  (∀ (s : State) (r : Reading), s.port.reading = some r → r.command = .journal →
    exec (.readJournal 0 true) s = .next (readReleased r r.bits s)) ∧
  (∀ (a b : Nat) (released : Bool) (s t : State), exec (.readJournal a false) s = .next t →
    exec (.readJournal (a + b) released) s = exec (.readJournal b released) t) ∧
  ∀ (bits : Nat) (s : State), portFree s →
    exec (.readJournal bits true) s = .next { s with
      port.dataOut := ((s.port.journal.flatMap journalImage).flatMap byteBits
        ++ List.replicate bits false).take bits
      port.journal := s.port.journal.drop (bits / 64)
      port.result := if bits % 8 = 0 then s.port.result else .frame } ∧
    ∀ e ∈ s.port.journal, (journalImage e).length = 8

/-- The level of the data output in a read: the bit that goes out next, of a fixed image or of the journal entry
copied, zero beyond its end; of an entry not yet begun the first bit of the head (R179, R191). -/
def readLevel (r : Reading) (t : State) : Prop :=
  (r.command ≠ .journal → t.dataLevel = ((r.image.flatMap byteBits)[r.bits]?).getD false) ∧
  (r.command = .journal →
    (r.bits % 64 ≠ 0 → t.dataLevel = ((r.image.flatMap byteBits)[r.bits % 64]?).getD false) ∧
    (r.bits % 64 = 0 →
      (∀ e rest, t.port.journal = e :: rest →
        t.dataLevel = (((journalImage e).flatMap byteBits)[0]?).getD false) ∧
      (t.port.journal = [] → t.dataLevel = false)))

/-- WATCH drives the condition its selector names onto the data output until select is released, follows it in
every state in which it is open, and changes no other state; with a selector that names none the output
stays low, and the release is refused REFUSED_RANGE (R183). In a read the data output carries the next bit of
the image, most significant bit first, and outside both it is low (R179). That a WATCH or a read may stay
open from one command to the next, and that the level then is that of the bit to be sampled next, is the
model's form of it (log entry 2). -/
def Obligations.WatchDrivesItsCondition : Prop :=
  (∀ (selector : Byte) (s : State),
    let result := if 2 < selector.toNat then .refusedRange else s.port.result
    (portFree s →
      exec (.watch selector false) s = .next { s with
        port.watch := some selector, port.dataOut := [] } ∧
      exec (.watch selector true) s = .next { s with port.dataOut := [], port.result := result }) ∧
    (s.port.watch = some selector → s.port.reading = none →
      exec (.watch selector false) s = .next s ∧
      exec (.watch selector true) s = .next { s with
        port.watch := none, port.result := result })) ∧
  ∀ t : State,
    (t.port.reading = none → t.port.watch = none → t.dataLevel = false) ∧
    (∀ r, t.port.reading = some r → readLevel r t) ∧
    ∀ selector, t.port.reading = none → t.port.watch = some selector →
      (selector = 0 → t.dataLevel = t.zt.zone.any fun z => z.phase == .atWork) ∧
      (selector = 1 → t.dataLevel = decide (∀ p : Pos, t.mem.stopSet[p] = Reasons.empty)) ∧
      (selector = 2 → t.dataLevel =
        (decide (t.role = some .press) && t.heat.holders.contains t.own)) ∧
      (2 < selector.toNat → t.dataLevel = false)

/-- A broken transaction gives FRAME and no command's effect: nothing outside the port changes, and the
latches, enables, counts and journal stand but for what a broken READ LATCHES or READ JOURNAL has
already done as its bytes went out (R179, R189, R191), the model's reading of a broken read (log entry
16). -/
def Obligations.BrokenTransactionGivesFrame : Prop :=
  ∀ (bytes : List Byte) (extraBits : Nat) (s : State), ∃ p,
    exec (.transactionFrame bytes extraBits) s = .next { s with port := p } ∧
    p.result = .frame ∧ p.watch = none ∧ p.reading = none ∧ p.enables = s.port.enables ∧
    p.groups = s.port.groups ∧ p.master = s.port.master ∧ p.stamp = s.port.stamp ∧
    p.retired = s.port.retired ∧ p.passed = s.port.passed ∧ p.diverted = s.port.diverted ∧
    (bytes.head? ≠ some 0x03 → p.latches = s.port.latches ∧ p.since = s.port.since) ∧
    (∀ rest, bytes = 0x03 :: rest → p.latches =
      if 24 ≤ 8 * rest.length + extraBits then Vector.replicate 17 false else s.port.latches) ∧
    (bytes.head? ≠ some 0x05 → p.journal = s.port.journal) ∧
    (∀ rest, bytes = 0x05 :: rest →
      p.journal = s.port.journal.drop ((8 * rest.length + extraBits) / 64))

/-- The station port with select released, whatever transaction was open: a read ends with FRAME within a byte,
else with its refusal, and a WATCH with a selector that names none with REFUSED_RANGE (R179, R180,
R183). -/
def selectReleased (s : State) : State :=
  { s with
    port.watch := none, port.reading := none
    port.result :=
      match s.port.reading, s.port.watch with
      | some r, _ => if r.bits % 8 = 0 then r.refusal.getD s.port.result else .frame
      | none, some selector => if 2 < selector.toNat then .refusedRange else s.port.result
      | none, none => s.port.result }

/-- A command of the station port, or a broken transaction. -/
def isTransaction : Instr → Bool
  | .status _ _ | .watch _ _ | .readLatches _ _ | .writeEnables _ _ | .readJournal _ _
  | .readRecord _ _ _ _ | .readMagazine _ _ _ | .writeParameter _ _ | .writeFormat _ _ | .join
  | .mark _ | .purge _ | .magazineClear | .stop | .go | .drain | .reset _
  | .transactionFrame _ _ => true
  | _ => false

/-- The command goes on with the transaction that is open. -/
def goesOn (s : State) : Instr → Prop
  | .watch selector _ => s.port.watch = some selector
  | .status _ _ => ∃ r ∈ s.port.reading, r.command = .status
  | .readLatches _ _ => ∃ r ∈ s.port.reading, r.command = .latches
  | .readJournal _ _ => ∃ r ∈ s.port.reading, r.command = .journal
  | .readRecord list index _ _ => ∃ r ∈ s.port.reading, r.command = .record list index
  | .readMagazine index _ _ => ∃ r ∈ s.port.reading, r.command = .magazine index
  | _ => False

/-- The port holds one transaction: a command that does not go on with the one open is taken as after its
release, the model's reading (log entry 2). The bytes of a whole transaction spell their command: each of
the seventeen by its code, its arguments most significant byte first, and a badly framed one gives
TRANSACTION_FRAME; every transaction of at least one byte gives a command, and one with no bit clocked gives
none, the model's choice (log entry 58). The bits of a transaction are those
of its bytes, each most significant bit first, and fewer than eight more (R179, R181, 12.2). -/
def Obligations.PortServesOneTransaction : Prop :=
  (∀ (c : Instr) (s : State), isTransaction c = true → ¬ goesOn s c →
    exec c s = exec c (selectReleased s)) ∧
  ∀ (straps : Straps),
    let gives (bytes : List Byte) (c : Instr) : Prop := transactionCommand straps bytes 0 = some c
    (∀ (data : List Byte) (a b : Byte),
      gives (0x01 :: data) (.status (8 * data.length) true) ∧
      gives (0x02 :: a :: data) (.watch a true) ∧
      gives (0x03 :: data) (.readLatches (8 * data.length) true) ∧
      gives (0x05 :: data) (.readJournal (8 * data.length) true) ∧
      gives (0x06 :: a :: b :: data) (.readRecord a b (8 * data.length) true) ∧
      gives (0x07 :: a :: data) (.readMagazine a (8 * data.length) true)) ∧
    (∀ (enables : BitVec 24) (a : Byte) (w : W16) (e : FormatEntry),
      gives ([0x04] ++ bytes3 enables ++ [a]) (.writeEnables enables a) ∧
      gives ([0x10, a] ++ bytes2 w) (.writeParameter a w) ∧
      gives ([0x11, a] ++ formatImage e) (.writeFormat a e) ∧
      gives [0x13, a] (.mark a) ∧ gives ([0x14] ++ bytes2 w) (.purge w)) ∧
    gives [0x12] .join ∧ gives [0x15] .magazineClear ∧ gives [0x16] .stop ∧ gives [0x17] .go ∧
    gives [0x18] .drain ∧ gives [0x1F] (.reset straps) ∧
    (∀ (bytes : List Byte) (extraBits : Nat), 0 < extraBits → extraBits < 8 →
      transactionCommand straps bytes extraBits = some (.transactionFrame bytes extraBits)) ∧
    (∀ (bytes : List Byte), bytes ≠ [] → ∃ c, gives bytes c ∧ c.wellFormed = true) ∧
    transactionOfBits straps [] = none ∧
    (∀ (bytes : List Byte) (rest : List Bool), rest.length < 8 →
      transactionOfBits straps (bytes.flatMap byteBits ++ rest) =
        transactionCommand straps bytes rest.length) ∧
    ∀ (b : Byte), (byteBits b).length = 8 ∧
      ∀ i : Fin 8, (byteBits b)[i.val]? = some (b.getLsbD (7 - i.val))

/-! ### The station port: writes -/

/-- The state after a port command that is refused: nothing changes but the last command result, a transaction
held open having ended (R180; log entry 2), and the model's own record of the data output, which every
transaction begins empty (log entry 30). -/
def refusedWith (r : PortResult) (s : State) : State :=
  { s with port.watch := none, port.reading := none, port.dataOut := [], port.result := r }

/-- A port command is answered: the state becomes `s` with the last command result `r`, and a transaction held
open has ended. What the data output has shown is left unsaid. -/
def portAnswers (o : Host.Outcome State Fault Refusal) (r : PortResult) (s : State) : Prop :=
  ∃ shown, o = .next { s with
    port.watch := none, port.reading := none, port.dataOut := shown, port.result := r }

/-- WRITE ENABLES writes the seventeen latch enables, the four group enables and the master enable in
every station state, and attention is asserted exactly while a set latch has its own enable, its
group's enable and the master enable on. After every reset all enables are off, every latch is clear and
attention is released (R188). -/
def Obligations.WriteEnablesSetsAttention : Prop :=
  ∀ (latches : BitVec 24) (groupMaster : Byte) (s : State),
    portAnswers (exec (.writeEnables latches groupMaster) s) .accepted { s with
      port.enables := Vector.ofFn fun k => latches.getLsbD k.val
      port.groups := Vector.ofFn fun g => groupMaster.getLsbD g.val
      port.master := groupMaster.getLsbD 7 } ∧
    (s.attention = true ↔ s.port.master = true ∧ ∃ k : Fin 17, s.port.latches[k] = true ∧
      s.port.enables[k] = true ∧
      s.port.groups[(if k.val < 5 then 0 else if k.val < 9 then 1
        else if k.val < 13 then 2 else 3 : Fin 4)]
        = true) ∧
    ∀ c t, isReset c → exec c s = .next t → t.attention = false ∧ t.port.master = false ∧
      (∀ k : Fin 17, t.port.enables[k] = false ∧ t.port.latches[k] = false) ∧
      ∀ g : Fin 4, t.port.groups[g] = false

/-- WRITE PARAMETER and WRITE FORMAT store what they are given, unchecked, in CONFIG; an identifier that
names no parameter or an index above 15 is refused REFUSED_RANGE, and outside CONFIG both are refused
REFUSED_STATE; a refusal changes nothing but the result, and a reset brings every parameter back to its
default (R37, R10). -/
def Obligations.ConfigWritesStoreUnchecked : Prop :=
  ∀ (id index : Byte) (value : W16) (entry : FormatEntry) (s : State),
    (s.mem.station = .config →
      (∀ k : Fin 8, id.toNat = k.val + 1 →
        portAnswers (exec (.writeParameter id value) s) .accepted
          { s with params.line := s.params.line.set k.val value }) ∧
      (∀ k : Fin 20, id.toNat = k.val + 32 →
        portAnswers (exec (.writeParameter id value) s) .accepted
          { s with params.station := s.params.station.set k.val value }) ∧
      (id = 0 ∨ (8 < id.toNat ∧ id.toNat < 32) ∨ 51 < id.toNat →
        portAnswers (exec (.writeParameter id value) s) .refusedRange s) ∧
      (∀ k : Fin 16, index.toNat = k.val →
        portAnswers (exec (.writeFormat index entry) s) .accepted
          { s with params.formats := s.params.formats.set k.val entry }) ∧
      (15 < index.toNat → portAnswers (exec (.writeFormat index entry) s) .refusedRange s)) ∧
    (s.mem.station ≠ .config →
      portAnswers (exec (.writeParameter id value) s) .refusedState s ∧
      portAnswers (exec (.writeFormat index entry) s) .refusedState s) ∧
    ∀ c t, isReset c → exec c s = .next t → t.params.line = lineDefaults ∧
      t.params.station = stationDefaults ∧ ∀ i : Fin 16, (t.params.formats[i]).valid ≠ 1 ∧
        (t.params.formats[i]).nominal = 100 ∧ (t.params.formats[i]).tolerance = 0 ∧
        (t.params.formats[i]).heat = 5 ∧ (t.params.formats[i]).setTime = 0

/-- The items of R38 that come before the format table pass. -/
def lineItemsPass (p : ParamStore) : Prop :=
  (Role.ofCode p.straps.role.toNat).isSome ∧ ∀ i : Fin 8, lineRange i p.line[i].toNat = true

/-- The format table passes (R10, R38). -/
def formatItemsPass (p : ParamStore) : Prop :=
  (∀ i : Fin 16, p.formats[i].valid = 1 → entryInRange p.formats[i] = true) ∧
    ∃ i : Fin 16, p.formats[i].valid = 1

/-- JOIN in CONFIG checks the role strap, the line parameters, the format table and the station
parameters in order, and is refused REFUSED_RANGE with the number of the first failing item, nothing
else changing; outside CONFIG it is refused REFUSED_STATE. With every item passing it computes the line
digest, sets the offending parameter index to none, attaches the bus with no quiet gap counted, queues the
JOIN notice with role and digest, enters JOINING and is ACCEPTED; the journal records JOIN_TAKEN with the
digest (R17, R38, R39). -/
def Obligations.JoinChecksThenAttaches : Prop :=
  (∀ s : State,
    (s.mem.station ≠ .config → exec .join s = .next (refusedWith .refusedState s)) ∧
    (s.mem.station = .config →
      let refused (n : Nat) : Prop :=
        exec .join s = .next (refusedWith .refusedRange { s with params.offending := BitVec.ofNat 8 n })
      ((Role.ofCode s.params.straps.role.toNat) = none → refused 0) ∧
      (∀ i : Fin 8, (Role.ofCode s.params.straps.role.toNat).isSome →
        lineRange i s.params.line[i].toNat = false →
        (∀ j < i, lineRange j s.params.line[j].toNat = true) → refused (1 + i.val)) ∧
      (∀ i : Fin 16, lineItemsPass s.params → s.params.formats[i].valid = 1 →
        entryInRange s.params.formats[i] = false →
        (∀ j < i, s.params.formats[j].valid = 1 → entryInRange s.params.formats[j] = true) →
        refused (16 + i.val)) ∧
      (lineItemsPass s.params → (∀ i : Fin 16, s.params.formats[i].valid ≠ 1) → refused 16) ∧
      (∀ i : Fin 20, lineItemsPass s.params → formatItemsPass s.params →
        stationRange i s.params.station[i].toNat = false →
        (∀ j < i, stationRange j s.params.station[j].toNat = true) → refused (32 + i.val)))) ∧
  ∀ s : State, s.mem.station = .config → s.bus.txq = [] → lineItemsPass s.params →
    formatItemsPass s.params → (∀ i : Fin 20, stationRange i s.params.station[i].toNat = true) →
    let digest := lineDigest s.params.line s.params.formats
    ∃ t, exec .join s = .next t ∧
      t.params = { s.params with digest := digest, offending := 255 } ∧
      t.bus = { attached := true, txq := [⟨.join s.params.straps.role digest, 0⟩],
                frame := .none, drive := .none, quiet := 0 } ∧
      t.mem = { s.mem with station := .joining } ∧
      t.port.result = .accepted ∧
      t.port.journal.getLast? = some ⟨.joinTaken, 0, .value digest.toNat, s.port.stamp⟩ ∧
      t.port.enables = s.port.enables ∧ t.port.retired = s.port.retired ∧
      t = { s with params := t.params, bus := t.bus, mem := t.mem, port := t.port }

/-! ### The station port: operator commands -/


/-- MARK with kind MACHINE marks the AT_WORK record at this position and journals MACHINE_MARK with its
tag; a PRESS station in WAIT_SHARE gives the book up, in every other state the work goes on. Without a
record AT_WORK in RUNNING it is refused REFUSED_STATE, and another kind REFUSED_RANGE (R186, R157). -/
def Obligations.MarkMarksTheRecordAtWork : Prop :=
  ∀ (kind : Byte) (s : State),
    (s.mem.station ≠ .running ∨ s.atWork? = none →
      exec (.mark kind) s = .next (refusedWith .refusedState s)) ∧
    (∀ z, s.mem.station = .running → s.atWork? = some z →
      (kind ≠ 12 → exec (.mark kind) s = .next (refusedWith .refusedRange s)) ∧
      (kind = 12 → ¬ (s.role = some .press ∧ s.work.press = .waitShare) → ∃ p,
        exec (.mark kind) s = .next { s with
          port := p
          zt.zone := mapFirst (fun y => y.phase == .atWork)
            (ZoneRecord.onBook (BookRecord.addMark .machine s.own)) s.zt.zone } ∧
        p.result = .accepted ∧
        p.journal.getLast? = some ⟨.machineMark, z.book.tag, .none, s.port.stamp⟩) ∧
      (kind = 12 → s.role = some .press → s.work.press = .waitShare → s.bus.txq.length < 15 →
        ∃ t, exec (.mark kind) s = .next t ∧ t.port.result = .accepted ∧
          t.port.journal.getLast? = some ⟨.machineMark, z.book.tag, .none, s.port.stamp⟩ ∧
          t.work.press = .idle ∧ t.heat.pendingBook = false ∧
          (s.heat.claim = .queued ∨ s.heat.claim = .waiting →
            t.heat.claim = .returning ∧ t.heat.use = .none ∧ t.heat.claimWait = none ∧
            t.bus.txq = s.bus.txq ++ [⟨.withdraw, 0⟩]) ∧
          t.zt.zone = mapFirst (fun y => y.phase == .atWork)
            (fun y => { y with book := y.book.addMark .machine s.own, phase := .worked })
            s.zt.zone))

/-- The VOID that the departure of a record queues, if any (R87). -/
def voidNotices (b : BookRecord) : List TxEntry :=
  match b.key with
  | none => []
  | some k =>
    if b.caseMarriage.isSome ∧ b.jacketMarriage.isSome then []
    else [⟨.void k b.format b.caseMarriage.isNone b.jacketMarriage.isNone, 0⟩]

/-- The room as it stands after records have come or gone and `sent` has been queued: the standing is that of
the room, and a change of it in RUNNING queues ROOM and becomes the standing announced (R84, R85). -/
def roomFollows (sent : List TxEntry) (s t : State) : Prop :=
  let told := t.zt.roomOpen ≠ s.zt.roomOpen ∧ s.mem.station = .running
  (t.zt.roomOpen = true ↔ s.roomMargin + t.zt.zone.length + t.zt.incoming.length < 8) ∧
  t.bus = { s.bus with
    txq := s.bus.txq ++ sent ++ (if told then [⟨.room t.zt.roomOpen, 0⟩] else []) } ∧
  t.zt.announced = (if told then some t.zt.roomOpen else s.zt.announced) ∧
  t.zt.roomHeard = s.zt.roomHeard ∧ t.zt.draining = s.zt.draining

/-- What a departure of a record leaves beside its lists: its VOID is queued and the room follows
(R84, R85, R87). -/
def departed (b : BookRecord) (s t : State) : Prop :=
  roomFollows (voidNotices b) s t ∧ t.mem = s.mem ∧ t.params = s.params ∧ t.heat = s.heat ∧
  t.parts = s.parts ∧ t.zt.tagCounter = s.zt.tagCounter

/-- PURGE takes the record its tag names out of its list as PURGED, with the VOID rule and the work on an
AT_WORK record abandoned; it is refused REFUSED_STATE in CONFIG and HALTED, REFUSED_RANGE where no
record has the tag, and REFUSED_BUSY for the record in a closed press (R74, R87, R123, R177). That a
VOID stands in the queue before ROOM, and that the PURGE of a WAITING record with no cycle in progress judges
no housekeeping, is the model's choice (log entries 11 and 42). -/
def Obligations.PurgeTakesTheRecordNamed : Prop :=
  ∀ (tag : W16) (s : State),
    (s.mem.station = .config ∨ s.mem.station = .halted →
      exec (.purge tag) s = .next (refusedWith .refusedState s)) ∧
    (s.mem.station = .joining ∨ s.mem.station = .running →
      ((∀ z ∈ s.zt.zone, z.book.tag ≠ tag) → (∀ r ∈ s.zt.incoming, r.book.tag ≠ tag) →
        exec (.purge tag) s = .next (refusedWith .refusedRange s)) ∧
      (∀ z, s.zt.zone.find? (fun y => y.book.tag == tag) = some z →
        (z.phase = .atWork → s.mem.station = .running → s.work.press ≠ .idle →
          exec (.purge tag) s = .next (refusedWith .refusedBusy s)) ∧
        (z.phase ≠ .atWork ∨ s.work.press = .idle → s.bus.txq.length ≤ 14 → ∃ t,
          exec (.purge tag) s = .next t ∧ t.port.result = .accepted ∧
          t.zt.zone = s.zt.zone.eraseP (fun y => y.book.tag == tag) ∧
          t.zt.incoming = s.zt.incoming ∧ departed z.book s t ∧
          t.port.journal.getLast? = some ⟨.purged, tag, .none, s.port.stamp⟩ ∧
          (z.phase ≠ .atWork → t.work = s.work ∧ t.rd = s.rd) ∧
          (z.phase = .atWork → s.role = some .infeed → t.rd = { s.rd with window := none }) ∧
          (z.phase = .atWork → s.role = some .case ∨ s.role = some .jacket → t.work = { s.work with
            parts := .idle, matchIndex := none
            cycle := s.work.cycle.map fun c => { c with owned := false } }) ∧
          (z.phase = .atWork → s.role = some .gate → t.work = { s.work with divert := none }))) ∧
      (∀ r, (∀ z ∈ s.zt.zone, z.book.tag ≠ tag) →
        s.zt.incoming.find? (fun y => y.book.tag == tag) = some r → s.bus.txq.length ≤ 14 → ∃ t,
          exec (.purge tag) s = .next t ∧ t.port.result = .accepted ∧
          t.zt.zone = s.zt.zone ∧
          t.zt.incoming = s.zt.incoming.eraseP (fun y => y.book.tag == tag) ∧
          departed r.book s t ∧ t.work = s.work ∧ t.rd = s.rd ∧
          t.port.journal.getLast? = some ⟨.purged, tag, .none, s.port.stamp⟩))

/-- MAGAZINE CLEAR empties the list, clears doubt, ends a read window, removes MAG_OVERRUN with the notice
of the change, judges the thresholds and journals MAG_CLEARED with the number removed; a waiting GOOD
record gets no part, and a waiting REJECT record is passed as it is (R121), which R124 leaves open and is the
model's choice (log entry 43). It is refused REFUSED_STATE at other roles and in CONFIG and HALTED, and
REFUSED_BUSY during a cycle (R124). -/
def Obligations.MagazineClearEmptiesTheList : Prop :=
  ∀ s : State,
    (¬ (s.role = some .case ∨ s.role = some .jacket) ∨ s.mem.station = .config
        ∨ s.mem.station = .halted →
      exec .magazineClear s = .next (refusedWith .refusedState s)) ∧
    (s.role = some .case ∨ s.role = some .jacket →
      s.mem.station = .joining ∨ s.mem.station = .running →
      (s.work.cycle ≠ none → exec .magazineClear s = .next (refusedWith .refusedBusy s)) ∧
      (s.work.cycle = none → s.bus.txq.length < 16 → s.highOffset < 24 → ∃ t,
        exec .magazineClear s = .next t ∧ t.port.result = .accepted ∧
        t.parts = { s.parts with magazine := [], doubt := false, low := true, high := false } ∧
        t.rd = { s.rd with window := none } ∧
        t.mem.ownStop = { s.mem.ownStop with magOverrun := false } ∧
        (s.mem.ownStop.magOverrun = false → t.bus = s.bus) ∧
        (s.mem.ownStop.magOverrun = true → t.bus.txq = s.bus.txq ++
          [⟨if t.mem.ownStop.isEmpty then .go else .stop t.mem.ownStop, 0⟩]) ∧
        ⟨.magCleared, 0, .value s.parts.magazine.length, s.port.stamp⟩ ∈ t.port.journal ∧
        (s.parts.low = false → t.port.latches[(5 : Fin 17)] = true) ∧
        t.params = s.params ∧ t.heat = s.heat ∧ t.zt.incoming = s.zt.incoming ∧
        (s.work.parts ≠ .waiting → t.zt = s.zt ∧ t.work = s.work) ∧
        (∀ z, s.work.parts = .waiting → s.atWork? = some z → z.book.verdict = .good →
          t.work = { s.work with parts := .idle, matchIndex := none } ∧
          t.zt.zone = mapFirst (fun y => y.phase == .atWork)
            (fun y => { y with
              book := y.book.addMark (if s.role = some .case then .noCase else .noJacket) s.own
              phase := .worked }) s.zt.zone) ∧
        (∀ z, s.work.parts = .waiting → s.atWork? = some z → z.book.verdict = .reject →
          t.work = { s.work with parts := .idle, matchIndex := none } ∧
          t.zt.zone = mapFirst (fun y => y.phase == .atWork) (fun y => { y with phase := .worked })
            s.zt.zone)))

/-- The own stop reasons change to `r` in JOINING or RUNNING: OWN_STOP is journalled and STOP with the new
set, or GO when it is empty, is queued; no change queues nothing (R97). -/
def ownStopSet (r : Reasons) (s t : State) : Prop :=
  t.mem = { s.mem with ownStop := r } ∧
  t.bus = (if r = s.mem.ownStop then s.bus else
    { s.bus with txq := s.bus.txq ++ [⟨if r.isEmpty then .go else .stop r, 0⟩] }) ∧
  (r ≠ s.mem.ownStop → t.port.journal.getLast? =
    some ⟨.ownStop, 0, .value r.toNat, s.port.stamp⟩) ∧
  (r = s.mem.ownStop → t.port.journal = s.port.journal)

/-- STOP adds COMMAND to the own stop reasons and GO removes COMMAND, CYCLE_FAULT and DIVERT_FAIL together,
each ACCEPTED in JOINING and RUNNING whether or not the set changes, with the notice of a change
queued; in CONFIG and HALTED each is refused REFUSED_STATE (R98, R97). -/
def Obligations.StopAndGoChangeTheOwnReasons : Prop :=
  ∀ s : State,
    (s.mem.station = .config ∨ s.mem.station = .halted →
      portAnswers (exec .stop s) .refusedState s ∧ portAnswers (exec .go s) .refusedState s) ∧
    (s.mem.station = .joining ∨ s.mem.station = .running → s.bus.txq.length < 16 →
      (∃ t, exec .stop s = .next t ∧ t.port.result = .accepted ∧
        ownStopSet { s.mem.ownStop with command := true } s t ∧
        t = { s with mem := t.mem, bus := t.bus, port := t.port }) ∧
      (∃ t, exec .go s = .next t ∧ t.port.result = .accepted ∧
        ownStopSet
          { s.mem.ownStop with command := false, cycleFault := false, divertFail := false } s t ∧
        t = { s with mem := t.mem, bus := t.bus, port := t.port }))

/-- DRAIN sets draining at an INFEED station that is not HALTED, again with no further effect; elsewhere it is
refused REFUSED_STATE. Admit is on exactly under its four conditions and off after every reset. The
resets clear draining, and no other command and no passing of time does (R16). -/
def Obligations.DrainHoldsUntilReset : Prop :=
  ∀ s : State,
    (s.role = some .infeed → s.mem.station ≠ .halted →
      portAnswers (exec .drain s) .accepted { s with zt.draining := true }) ∧
    (¬ (s.role = some .infeed ∧ s.mem.station ≠ .halted) →
      portAnswers (exec .drain s) .refusedState s) ∧
    (s.admitOutput = true ↔ s.role = some .infeed ∧ s.mem.station = .running ∧
      (∀ p : Pos, s.mem.stopSet[p] = Reasons.empty) ∧ s.zt.roomOpen = true ∧
      s.zt.draining = false) ∧
    (∀ c t, isReset c → exec c s = .next t → t.zt.draining = false ∧ t.admitOutput = false) ∧
    (∀ c t, ¬ isReset c → exec c s = .next t → s.zt.draining = true → t.zt.draining = true) ∧
    ∀ t, s.pending = [] → step s = .next t → t.zt.draining = s.zt.draining

/-! ### The line bus -/

/-- The notice `e` at place `k` of the queue is the first that may be sent (R28, R29): the own JOIN while that
has not been applied, else the oldest of the lowest class. -/
def firstToSend (s : State) (k : Nat) (e : TxEntry) : Prop :=
  s.bus.txq[k]? = some e ∧
    if s.mem.station = .joining ∧ s.mem.joinWindow = none then
      e.notice.kind = .join ∧ ∀ j e', j < k → s.bus.txq[j]? = some e' → e'.notice.kind ≠ .join
    else ∀ j e', s.bus.txq[j]? = some e' → e.notice.kind.cls < e'.notice.kind.cls ∨
      (e.notice.kind.cls = e'.notice.kind.cls ∧ k ≤ j)

/-- FRAME START, with no frame in progress, counts the recessive bit times that it brings. Below eleven in a
row nothing begins, and a dominant level of another station sets the count back. From eleven the first
eligible notice begins: while the own JOIN has not been applied that JOIN, else the lowest class, and within
it the oldest. Its contents are fixed then, and a BEACON's room standing becomes the one last announced. A
lower arbitration field of another station makes this station lose the arbitration: it drives its levels up
to the first that differs from the rival's, its losing bit, and the notice stays in its place with its
failure count. With nothing to send, another station's frame is received. While detached, and while a frame
is in progress, nothing begins. A HANDOVER carries the whole ds left of its open time, a step in progress
counted as spent, and the last whole ds where its step has run to its end and the start bit is taken before
the expiry (R17, R20, R21, R28, R29, R33, R81, R85, R91). The model's choices: the command brings its bit
times with the start, an announcement counts from the start bit, the loss is known from the start (log
entries 8, 37 and 55), a step is in progress from its first millisecond to before its last (12, 46). -/
def Obligations.FrameStartSendsTheFirstEligible : Prop :=
  ∀ (recessive : Nat) (rival : Option Rival) (s : State),
    let start := exec (.frameStart rival recessive) s
    let count := s.bus.quiet + recessive
    (∀ (p : Pos) (b : BookRecord) (ran : Nat), s.payload (.handover p b ran) = byteOfPos p ::
      recordImage b (b.openTime.map fun ds => if 0 < ran ∧ ran < 100 then ds - 1 else ds)) ∧
    (s.bus.attached = false ∨ s.bus.frame ≠ .none → start = .next s) ∧
    (s.bus.attached = true → s.bus.frame = .none →
      (count < 11 → start = .next { s with
        bus.drive := .none, bus.quiet := if rival = none then count else 0 }) ∧
      (11 ≤ count →
        (∀ k e, firstToSend s k e → start = .next { s with
          bus.drive := .none
          bus.quiet := 0
          bus.frame :=
            (match rival with
             | none => .sending k e.notice.kind (s.payload e.notice)
             | some r =>
               if r.cls.toNat * 16 + r.sender.val < e.notice.kind.cls * 16 + s.own.val then
                 .losing k e.notice.kind r
               else .sending k e.notice.kind (s.payload e.notice))
          zt.announced :=
            if e.notice.kind = .beacon then some s.zt.roomOpen else s.zt.announced }) ∧
        ((∀ k e, ¬ firstToSend s k e) → start = .next { s with
          bus.drive := .none
          bus.quiet := if rival = none then 11 else 0
          bus.frame := if rival = none then .none else .receiving }))) ∧
    ∀ place kind r, s.bus.frame = .losing place kind r →
      r.cls.toNat * 16 + r.sender.val < kind.cls * 16 + s.own.val →
      let own := arbitrationLevels kind.cls s.own
      let other := arbitrationLevels r.cls.toNat r.sender
      ∃ n, s.drivenLevels = own.take (n + 1) ∧ own.take n = other.take n ∧
        own[n]? = some true ∧ other[n]? = some false

/-- Each failed attempt of a sender, by a readback mismatch or a flag, raises its notice's failure count by
one, keeps the notice in its place and journals SEND_FAILED with the kind and the count; the failure that
brings the count to 8 journals it too and halts the station with BUS_FAULT (R22, R24, R25). The entry has
tag 0 for a HANDOVER too, the model's choice (log entry 20). A receiver drops a faulty frame
without applying it; it journals BAD_FRAME with the fault and the sender for a check fault, a length fault
and an unknown kind that it found, and nothing for a structure error or a flag of another station (R23,
R24). A station that loses arbitration is a sender up to its losing bit, where a mismatch is a failure like
any other, and a receiver from there (R21, R22; log entry 55). After a mismatch and after a structure error
the controller drives an abort run of six dominant bit times, and for a check fault and an unknown kind a
dominant flag slot (R22, R23); that they stand in State until the next command that brings bit times, and
that the step of an eighth failure ends after its abort run, are the model's choices (log entry 8). A
detached controller takes no part, and a frame whose start was not taken does not concern it (R17, R20). -/
def Obligations.FaultyFramesAreCountedOrDropped : Prop :=
  (∀ (c : Instr) (s : State) (place : Nat) (kind : NoticeKind) (payload : List Byte) (e : TxEntry),
    (c = .readbackMismatch ∨ ∃ cause, c = .flaggedFrame cause) → s.bus.attached = true →
    s.mem.station = .joining ∨ s.mem.station = .running →
    s.bus.frame = .sending place kind payload ∨
      (c = .readbackMismatch ∧ ∃ r, s.bus.frame = .losing place kind r) →
    s.bus.txq[place]? = some e →
    (e.failures + 1 < 8 → ∃ p, exec c s = .next { s with
      bus.frame := .none, bus.quiet := 0
      bus.drive := if c = .readbackMismatch then .abortRun else .none
      bus.txq := s.bus.txq.set place { e with failures := e.failures + 1 }
      port := p } ∧
      p.journal.getLast? = some ⟨.sendFailed, 0,
        .pair (e.notice.kind.cls * 16 + e.notice.kind.code) (e.failures + 1), s.port.stamp⟩ ∧
      p.result = s.port.result) ∧
    (8 ≤ e.failures + 1 → ∃ t, exec c s = .next t ∧ t.mem.station = .halted ∧
      t.mem.haltReason = .busFault ∧
      t.bus = { attached := false, txq := [], frame := .none, drive := .none, quiet := 0 } ∧
      t.zt = s.zt ∧ t.heat = s.heat ∧ t.work = s.work ∧ t.params = s.params ∧
      t.port = (s.port.append .sendFailed 0
        (.pair (e.notice.kind.cls * 16 + e.notice.kind.code) (e.failures + 1))).append .halted 0
          (.value 1) ∧
      t.port.journal.getLast? = some ⟨.halted, 0, .value 1, s.port.stamp⟩)) ∧
  (∀ (p : Pos) (s : State),
    (s.bus.attached = false ∨ s.bus.frame = .none → ∀ cause flag,
      exec (.structureError cause) s = .next s ∧
      (s.bus.frame = .none → exec .readbackMismatch s = .next s) ∧
      exec (.flaggedFrame flag) s = .next s) ∧
    (s.bus.attached = true →
      s.bus.frame = .receiving ∨ (∃ place kind r, s.bus.frame = .losing place kind r) →
      let dropped (d : Drive) : State := s.frameEnded d
      exec (.structureError .insertion) s = .next (dropped .abortRun) ∧
      exec (.structureError (.length p)) s = .next { dropped .abortRun with
        port := s.port.append .badFrame 0 (.pair 2 (posNumber p)) } ∧
      exec (.flaggedFrame .byOther) s = .next (dropped .none) ∧
      exec (.flaggedFrame (.check p)) s = .next { dropped .flag with
        port := s.port.append .badFrame 0 (.pair 1 (posNumber p)) } ∧
      exec (.flaggedFrame (.kind p)) s = .next { dropped .flag with
        port := s.port.append .badFrame 0 (.pair 3 (posNumber p)) })) ∧
  ∀ s : State, (∀ place kind payload, s.bus.frame ≠ .sending place kind payload) →
    (∀ place kind r, s.bus.frame ≠ .losing place kind r) →
    (s.bus.drive = .abortRun → s.drivenLevels = List.replicate 6 false) ∧
    (s.bus.drive = .flag → s.drivenLevels = [false]) ∧
    (s.bus.drive = .none → s.drivenLevels = [])

/-- A journal entry is appended at the tail with the stamp of the moment; a full journal first discards its
oldest entry and sets JOURNAL_WRAP, and a READ JOURNAL that has copied the entry discarded will remove
none in its place (R190, R191). A latch's event sets the latch and its set-since-snapshot mark (R187,
R189). A mark is stored while fewer than four are, makes the verdict REJECT and removes open time left
(R5). -/
def Obligations.JournalAndMarksFollowTheirRules : Prop :=
  (∀ (k : JournalKind) (tag : W16) (d : Detail) (p : PortUnit),
    (p.journal.length < 32 → p.append k tag d =
      { p with journal := p.journal ++ [⟨k, tag, d, p.stamp⟩] }) ∧
    (p.journal.length = 32 → p.append k tag d =
      { p with
        journal := p.journal.tail ++ [⟨k, tag, d, p.stamp⟩]
        latches := p.latches.set 16 true, since := p.since.set 16 true
        reading := p.reading.map fun r => { r with copied := false } })) ∧
  (∀ (l : Latch) (p : PortUnit), p.setLatch l = { p with
    latches := p.latches.set l.index.val true, since := p.since.set l.index.val true }) ∧
  ∀ (k : MarkKind) (p : Pos) (b : BookRecord),
    (b.marks.length < 4 → b.addMark k p =
      { b with marks := b.marks ++ [⟨k, p⟩], verdict := .reject, openTime := none }) ∧
    (4 ≤ b.marks.length → b.addMark k p = { b with verdict := .reject, openTime := none })

/-- Inserted bits come out again: a receiver removes exactly what the sender inserted and finds no structure
error; no six consecutive levels of an inserted region are equal; and one bit at most is inserted for
each four, so that a frame is at most 369 bit times long (R19). -/
def Obligations.InsertedBitsComeOutAgain : Prop :=
  (∀ bits : List Bool, removeBits (insertBits bits) = (bits, false)) ∧
  (∀ bits : List Bool, (insertBits bits).length ≤ bits.length + bits.length / 4) ∧
  (∀ (bits : List Bool) (i : Nat) (level : Bool),
    ((insertBits bits).drop i).take 6 ≠ List.replicate 6 level) ∧
  ∀ (cls sender code : Nat) (payload : List Byte), payload.length ≤ 32 →
    41 ≤ (wireImage cls sender code payload).length ∧
    (wireImage cls sender code payload).length ≤ 369

/-- A notice this station can send: a BEACON's wait list has at most the 15 entries that 12.1 has room
for. -/
def sendable (s : State) (n : Notice) : Prop := n = .beacon → s.heat.waits.length ≤ 15

/-- Whatever notice a station sends, every receiver of the frame it drives judges it good and reads from it
the sender, the kind and the payload that were sent (R18, R19, R23, 12.1). -/
def Obligations.SentFramesAreReadBack : Prop :=
  ∀ (s : State) (n : Notice), sendable s n → ∃ c,
    judge (insertBits (frameBits n.kind.cls s.own.val n.kind.code (s.payload n))) = .good c ∧
    completedFrame c = some (s.own, n.kind, s.payload n)

/-- A record image gives back the record it was made of, with every field at every value its range admits
(R1, 12.1, R193). -/
def Obligations.RecordImagesGiveBackTheRecord : Prop :=
  ∀ b : BookRecord, b.lawful → b.key ≠ some 0 → b.copy ≠ some 0 → b.length.getD 0 ≤ 1023 →
    ∃ image : RecordImage, image.toList = recordImage b b.openTime ∧ recordOf image = b

/-- A BEACON payload gives back what it was made of: role, room, digest, the stop set of all sixteen
positions, and the holders and wait list of a PRESS sender (12.1, R193). -/
def Obligations.BeaconPayloadsGiveBackTheirContents : Prop :=
  ∀ c : BeaconContent, c.roleCode < 8 →
    (∀ holders waits, c.shares = some (holders, waits) → c.roleCode = 3 ∧
      holders.Pairwise (· < ·) ∧ waits.length ≤ 15) →
    beaconOf (beaconBytes c) = c ∧ beaconLengthKnown (beaconBytes c).length = true

/-- A good frame is applied by a station only while it is attached, only when it took the frame's start, and
only once its own JOIN has been applied; a frame of its own position that it did not send halts it with
POSITION_CLASH and has no other effect (R17, R20, R26, R42, R52). Whether a frame is its own is judged
by the frame in progress, the model's choice (log entry 9). -/
def Obligations.FramesAreAppliedOnlyByMembers : Prop :=
  ∀ (c : Instr) (p : Pos) (kind : NoticeKind) (payload : List Byte) (s : State),
    completedFrame c = some (p, kind, payload) →
    (s.bus.attached = false ∨ s.bus.frame = .none → exec c s = .next s) ∧
    (s.bus.attached = true → s.bus.frame ≠ .none → p ≠ s.own → s.mem.station = .joining →
      s.mem.joinWindow = none → exec c s = .next s.frameEnded) ∧
    (s.bus.attached = true → s.bus.frame ≠ .none →
      s.mem.station = .joining ∨ s.mem.station = .running →
      p = s.own → (∀ place, s.bus.frame ≠ .sending place kind payload) → ∃ t,
      exec c s = .next t ∧ t.mem = { s.mem with station := .halted, haltReason := .positionClash } ∧
      t.bus = { attached := false, txq := [], frame := .none, drive := .none, quiet := 0 } ∧
      t.params = s.params ∧ t.zt = s.zt ∧ t.work = s.work ∧ t.heat = s.heat ∧
      t.port.journal.getLast? = some ⟨.halted, 0, .value 4, s.port.stamp⟩)

/-! ### What the magazine does at the end of a wait -/

/-- The same record with work done. -/
def workDone (y : ZoneRecord) : ZoneRecord := { y with phase := .worked }

/-- A part entry is for a record: title key and format, both present, agree. -/
def entryIsFor (b : BookRecord) (e : PartEntry) : Prop :=
  b.key ≠ none ∧ b.format ≠ none ∧ e.key = b.key ∧ e.format = b.format

/-- The magazine standings of a list of parts (R110). -/
def standingsOf (s : State) (magazine : List PartEntry) (p : PartMagazine) : Prop :=
  p.magazine = magazine ∧ (p.high = true ↔ 24 - magazine.length ≤ s.highOffset) ∧
    (p.low = true ↔ magazine.length ≤ s.lowOffset) ∧ p.arrival = s.parts.arrival ∧
    p.doubt = s.parts.doubt


/-- A skip cycle begins in `u` on its head entry `e`, leaving `t`: the entry leaves the list, the oldest void
entry equal to it is consumed, the thresholds are judged, SKIPPED is journalled and the cycle timer
starts; `owned` while the skip is made for the record at work (R110, R112, R115, R120). -/
def skipBegins (owned : Bool) (e : PartEntry) (rest : List PartEntry) (u t : State) : Prop :=
  standingsOf u rest t.parts ∧ t.parts.voids = eraseFirst e.equalsVoid u.parts.voids ∧
  (t.parts.low = true → u.parts.low = false → t.port.latches[(5 : Fin 17)] = true) ∧
  t.port.journal.getLast? = some ⟨.skipped, 0,
    .skip e.arrival e.key (u.parts.voids.any e.equalsVoid), u.port.stamp⟩ ∧
  t = { u with
    parts := t.parts, port := t.port
    work.cycle := some ⟨.skip, owned, e.arrival, u.cycleMs⟩ }

/-- The casing or jacketing cycle begins in `u` on its head entry `e`, leaving `t`: the entry leaves the list,
the thresholds are judged, the marriage is written into the record at work, at CASE with open time W and
a fresh step, and the cycle timer starts (R110, R116, R167). -/
def marryBegins (e : PartEntry) (rest : List PartEntry) (u t : State) : Prop :=
  standingsOf u rest t.parts ∧ t.parts.voids = u.parts.voids ∧
  (t.parts.low = true → u.parts.low = false → t.port.latches[(5 : Fin 17)] = true) ∧
  t.port.journal = u.port.journal ∧
  t = { u with
    parts := t.parts, port := t.port
    work := { u.work with
      parts := .cycling, matchIndex := none
      cycle := some ⟨.marry, true, e.arrival, u.cycleMs⟩ }
    zt.zone := mapFirst (fun y => y.phase == .atWork)
      (fun y => if u.role = some .case then { y with
          book := { y.book with
            caseMarriage := some ⟨u.own, e.arrival⟩, openTime := some u.openTimeDs }
          step := 0 }
        else { y with book := { y.book with jacketMarriage := some ⟨u.own, e.arrival⟩ } })
      u.zt.zone }

/-- The head entry is unwanted: it does not wait for its ID, and it is blank, has no format, or equals a void
entry (R112, R120). -/
def unwanted (voids : List VoidEntry) (e : PartEntry) : Prop :=
  e.waiting = false ∧
    (e.key = none ∨ e.format = none ∨ ∃ v ∈ voids, e.key = some v.key ∧ e.format = v.format)

/-- Housekeeping judged in `u` leaves `t`: in RUNNING at CASE and JACKET, with the work in IDLE, no cycle in
progress and no doubt, a housekeeping skip begins on an unwanted head; else nothing changes (R120). -/
def housekept (u t : State) : Prop :=
  let may := u.mem.station = .running ∧ (u.role = some .case ∨ u.role = some .jacket) ∧
    u.work.parts = .idle ∧ u.work.cycle = none ∧ u.parts.doubt = false
  (∀ e rest, may → u.parts.magazine = e :: rest → unwanted u.parts.voids e →
    skipBegins false e rest u t) ∧
  (¬ (may ∧ ∃ e rest, u.parts.magazine = e :: rest ∧ unwanted u.parts.voids e) → t = u)

/-- `u` with the work on the record at work done, after `f` has come to it, and housekeeping judged
(R69, R113, R120). -/
def partsEnd (f : ZoneRecord → ZoneRecord) (u t : State) : Prop :=
  housekept { u with
    zt.zone := mapFirst (fun y => y.phase == .atWork) (fun y => workDone (f y)) u.zt.zone
    work := { u.work with parts := .idle, matchIndex := none } } t

/-- The record at work gets no part: NO_CASE or NO_JACKET, MATCH_FAIL, and work done (R114, R167). -/
def noPartGiven (u t : State) : Prop :=
  partsEnd
    (ZoneRecord.onBook
      (BookRecord.addMark (if u.role = some .case then .noCase else .noJacket) u.own))
    { u with port := (u.port.setLatch .matchFail).append .matchFail u.workTag .none } t

/-- The record at work, whose book is `b`, is matched: no part with doubt set or no match within the
lookahead; the marrying cycle on a match at the head; the first skip with the match further on
(R114, R115, R116, R167). -/
def matched (b : BookRecord) (u t : State) : Prop :=
  (u.parts.doubt = true ∨ (∀ e ∈ u.parts.magazine.take (u.lookahead + 1), ¬ entryIsFor b e) →
    noPartGiven u t) ∧
  (∀ e rest, u.parts.doubt = false → u.parts.magazine = e :: rest →
    (entryIsFor b e → marryBegins e rest u t) ∧
    (∀ k e', 0 < k → k ≤ u.lookahead → u.parts.magazine[k]? = some e' → entryIsFor b e' →
      (∀ j e'', j < k → u.parts.magazine[j]? = some e'' → ¬ entryIsFor b e'') →
      skipBegins true e rest
        { u with work := { u.work with parts := .skipping, matchIndex := some k } } t))

/-- A cycle without a record, or the read window of a magazine entry, has ended in `u`: a record that waits is
passed if it is REJECT and matched otherwise, once no cycle and no window runs; with none waiting
housekeeping is judged (R120, R121). -/
def waitEnds (u t : State) : Prop :=
  (u.work.parts ≠ .waiting → housekept u t) ∧
  (u.work.parts = .waiting →
    (u.work.cycle ≠ none ∨ u.rd.window ≠ none → t = u) ∧
    (u.work.cycle = none → u.rd.window = none → ∀ z, u.atWork? = some z →
      (z.book.verdict = .reject → partsEnd id u t) ∧
      (z.book.verdict = .good → matched z.book u t)))

/-- The own stop reasons have become `r`: OWN_STOP is journalled and STOP with the new set queued where that
is a change (R97). -/
def withReasons (r : Reasons) (u : State) : State :=
  if r = u.mem.ownStop then u
  else { u with
    mem.ownStop := r
    bus.txq := u.bus.txq ++ [⟨.stop r, 0⟩]
    port := u.port.append .ownStop 0 (.value r.toNat) }

/-! ### Notices -/

/-- An applied STOP sets or replaces its sender's entry of the stop set, and one whose reason bits are all
zero removes it as GO does; an applied GO removes it. The line's change of standing sets its latch and
is journalled with the position; nothing else changes but the sender's silence timer (R94, R100,
R193). -/
def Obligations.StopAndGoNoticesSetTheStopSet : Prop :=
  ∀ (p : Pos) (r : Byte) (s t0 : State),
    (s.takesFrame p .stop [r] t0 →
      let stops := t0.mem.stopSet.set p.val
        ⟨r.getLsbD 0, r.getLsbD 1, r.getLsbD 2, r.getLsbD 3, r.getLsbD 4⟩ p.isLt
      exec (.stopNotice p r) s = .next { t0.silenceRestarted p with
        mem.stopSet := stops, port := t0.linePort stops p }) ∧
    (s.takesFrame p .go [] t0 →
      let stops := t0.mem.stopSet.set p.val ⟨false, false, false, false, false⟩ p.isLt
      exec (.goNotice p) s = .next { t0.silenceRestarted p with
        mem.stopSet := stops, port := t0.linePort stops p })

/-- What an applied ABSENT that names the member `q` makes of `t0`, before a share that it grants to this
station (R51, R77, R92, R94, R131). -/
def memberTaken (p q : Pos) (s t0 t : State) : Prop :=
  t.mem = { (t0.silenceRestarted p).mem with
    members := t0.mem.members.set q.val
      ⟨.absent, (t0.mem.members[q]).role, (t0.mem.members[q]).foreign⟩ q.isLt
    silence := (t0.silenceRestarted p).mem.silence.set q.val none q.isLt
    stopSet := t0.mem.stopSet.set q.val ⟨false, false, false, false, false⟩ q.isLt } ∧
  t.zt = { t0.zt with roomHeard := t0.zt.roomHeard.set q.val false q.isLt } ∧
  t.bus = { t0.bus with txq := t0.bus.txq.filter fun e => e.notice != .absent q } ∧
  t.heat = (if s.role = some .press then
    { t0.heat with
      holders := (tableWithout q t0.heat).1, waits := (tableWithout q t0.heat).2 }
    else t0.heat) ∧
  ((t0.mem.members[q]).status ≠ .absent → t.port.latches[(15 : Fin 17)] = true ∧
    ⟨.memberAbsent, 0, .value (q.val + 1), s.port.stamp⟩ ∈ t.port.journal) ∧
  ((t0.mem.members[q]).status = .absent → t.port = t0.linePort
    (t0.mem.stopSet.set q.val ⟨false, false, false, false, false⟩ q.isLt) q) ∧
  t = { t0 with mem := t.mem, zt := t.zt, bus := t.bus, heat := t.heat, port := t.port }

/-- An applied ABSENT that names the station's own position halts it with ABSENT_SELF. One that names
another makes that member ABSENT with its role kept, stops its silence timer, removes its stop entry,
closes its room heard, drops a waiting ABSENT of the same position, and at PRESS removes it from the
share table; a member newly absent sets MEMBER_CHANGE and is journalled (R51, R77, R92, R94, R131).
Stated where no share is granted to this station; GrantsReachTheClaim states the rest. -/
def Obligations.AbsentTakesTheMemberAway : Prop :=
  ∀ (p q : Pos) (s t0 : State), s.takesFrame p .absent [byteOfPos q] t0 →
    (q = s.own → s.mem.station = .joining ∨ s.mem.station = .running → ∃ t,
      exec (.absent p (byteOfPos q)) s = .next t ∧ t.mem.station = .halted ∧
      t.mem.haltReason = .absentSelf ∧ t.bus.txq = [] ∧ t.bus.attached = false ∧
      t.zt = s.zt ∧ t.work = s.work ∧ t.heat = s.heat) ∧
    (q ≠ s.own → s.role ≠ some .press ∨ (s.sharesLawful ∧ ¬ s.grantedBy q) → ∃ t,
      exec (.absent p (byteOfPos q)) s = .next t ∧ memberTaken p q s t0 t)

/-- A PRESS station takes a class-1 notice of its sender. -/
def takesClassOne (s : State) (p : Pos) : Prop :=
  s.role = some .press ∧ (s.mem.members[p]).foreign = false

/-- A grant given to the station's own claim, queued or waiting, takes `u`, in which its position has become
a holder, to `t` (R132, R133). For a book in WAIT_SHARE with the guard closed the heat phase begins, with
the preheat of a COLD bar, open time removed and the warm timer stopped (R151); for keep-warm a burst
begins (R142). With the guard open RELEASE is queued and GRANT_RETURNED journalled (R151, R142). A claim
RETURNING gets GRANT_UNWANTED (R138). -/
def grantReaches (u t : State) : Prop :=
  let asked := u.heat.claim = .queued ∨ u.heat.claim = .waiting
  let forBook := asked ∧ u.heat.use = .book ∧ u.work.press = .waitShare
  let forWarmth := asked ∧ u.heat.use = .keepwarm
  let takes : HeatShare := { u.heat with claim := .holding, claimWait := none }
  let returns : State := { u with
    heat := { u.heat with claim := .returning, use := .none, claimWait := none }
    bus.txq := u.bus.txq ++ [⟨.release, 0⟩] }
  let returnable := u.mem.guardOpen = true ∧ u.mem.station = .running ∧ u.bus.txq.length < 16
  (forBook → u.mem.guardOpen = false → t = { u with
    heat := { takes with warmLeft := none, due := false }
    work.press := .heat
    work.heat := some ⟨if u.heat.warm then 0 else u.preheat,
      u.work.book.allowance - u.work.book.credited, 0⟩
    zt.zone := mapFirst (fun z => z.phase == .atWork)
      (ZoneRecord.onBook fun b => { b with openTime := none }) u.zt.zone }) ∧
  (forBook → returnable → t = { returns with
    work.book.returned := true, port := u.port.append .grantReturned u.workTag .none }) ∧
  (forWarmth → u.mem.guardOpen = false → t = { u with
    heat := { takes with warmLeft := none, due := false, burst := some u.burstMs } }) ∧
  (forWarmth → returnable → t = { returns with
    port := u.port.append .grantReturned 0 .none }) ∧
  (u.heat.claim = .returning → t = { u with port := u.port.append .grantUnwanted 0 .none })

/-- A wait list with a claim placed in it: KEEPWARM after the last KEEPWARM entry, so before the BOOK entries
that stand behind that one, and BOOK at the tail (R128). -/
def waitsWith (p : Pos) (cls : ClaimClass) (waits : List WaitEntry) : List WaitEntry :=
  match cls with
  | .book => waits ++ [⟨p, .book⟩]
  | .keepwarm => (waits.reverse.dropWhile (fun e => e.cls == .book)).reverse ++ [⟨p, .keepwarm⟩]
      ++ (waits.reverse.takeWhile (fun e => e.cls == .book)).reverse

/-- No hold-off runs in `u`, one having ended or the claim having come back, and `t` is what follows: in
RUNNING with the claim NONE a pending book claim is asked for, else a keep-warm claim where the keep-warm conditions hold (R134, R136, R141). Stated
where the queue has a place for the CLAIM. -/
def holdOffEnds (u t : State) : Prop :=
  let free := u.mem.station = .running ∧ u.heat.claim = .none
  let book := free ∧ u.heat.pendingBook = true
  let warm := free ∧ u.heat.pendingBook = false ∧ u.role = some .press ∧ u.heat.due = true ∧
    u.heat.warm = true ∧ (u.zt.zone ≠ [] ∨ u.zt.incoming ≠ []) ∧ u.work.press = .idle ∧
    u.mem.guardOpen = false
  (book → u.bus.txq.length < 16 → t = { u with
    bus.txq := u.bus.txq ++ [⟨.claim .book, 0⟩]
    heat.claim := .queued, heat.use := .book, heat.pendingBook := false }) ∧
  (warm → u.bus.txq.length < 16 → t = { u with
    bus.txq := u.bus.txq ++ [⟨.claim .keepwarm, 0⟩]
    heat.claim := .queued, heat.use := .keepwarm }) ∧
  (¬ book → ¬ warm → t = u)

/-- An applied CLAIM of another position: ignored and journalled PROTOCOL where
the position stands in the table; granted where a place is free and none waits; else placed, KEEPWARM
after the last KEEPWARM entry and BOOK at the tail. At other roles, and from a foreign member, only the
silence timer is touched (R127, R128, R48). A peer's CLAIM that is granted or placed ends a running hold-off,
which lets the own claim be asked for; one that is ignored does not (R136).
The station's own CLAIM, queued before: WAITING with its claim-wait timer where it is placed in the wait
list; where it is granted the grant reaches its book or keep-warm at once, and still RETURNING, the
grant unwanted or the entry waiting, where the claim has been given up (R128, R133, R137, R138). An own
CLAIM that finds its position in the table is journalled PROTOCOL and follows where it stands from QUEUED,
and stays RETURNING, the model's choice (log entry 19). -/
def Obligations.ClaimsTakeTheirPlace : Prop :=
  ∀ (p : Pos) (c : Byte) (s t0 : State), s.takesFrame p .claim [c] t0 →
    let cls : ClaimClass := if c.getLsbD 0 then .book else .keepwarm
    let waits := t0.heat.waits
    let stands := p ∈ t0.heat.holders ∨ ∃ e ∈ waits, e.position = p
    let free := t0.heat.holders.length < s.heatBudget ∧ waits = []
    let claims := exec (.claim p c) s
    (p ≠ s.own →
      let u := t0.silenceRestarted p
      (¬ takesClassOne s p → claims = .next u) ∧
      (takesClassOne s p → stands → claims = .next { u with
        port := u.port.append .protocol 0 (.pair (p.val + 1) 0x10) }) ∧
      (takesClassOne s p → ¬ stands →
        let placed : State := { u with
          heat.holders := if free then addHolder p t0.heat.holders else t0.heat.holders
          heat.waits := if free then waits else waitsWith p cls waits }
        (s.heat.holdOff = none → claims = .next placed) ∧
        (s.heat.holdOff ≠ none → ∃ t, claims = .next t ∧
          holdOffEnds { placed with heat.holdOff := none } t))) ∧
    (p = s.own →
      (¬ takesClassOne s p → claims = .next t0) ∧
      (takesClassOne s p → stands → s.heat.claim = .queued → claims = .next { t0 with
        heat.claim := if p ∈ t0.heat.holders then .holding else .waiting
        port := t0.port.append .protocol 0 (.pair (p.val + 1) 0x10) }) ∧
      (takesClassOne s p → stands → s.heat.claim = .returning → claims = .next { t0 with
        port := t0.port.append .protocol 0 (.pair (p.val + 1) 0x10) }) ∧
      (takesClassOne s p → ¬ stands → free → ∃ t, claims = .next t ∧
        grantReaches { t0 with heat.holders := addHolder p t0.heat.holders } t) ∧
      (takesClassOne s p → ¬ stands → ¬ free →
        (s.heat.claim = .queued → claims = .next { t0 with
          heat.waits := waitsWith p cls waits
          heat.claim := .waiting, heat.claimWait := some s.claimWaitMs }) ∧
        (s.heat.claim = .returning → claims = .next { t0 with
          heat.waits := waitsWith p cls waits })))

/-- An applied RELEASE removes its sender from the holders and the head of the wait list takes the place;
from a position that holds nothing it is ignored. An applied WITHDRAW removes a waiting entry without
a grant, or a holder as RELEASE does. Stated for a lawful table and a sender other than this station,
where the grant is not this station's (R129, R130). -/
def Obligations.ReleaseAndWithdrawGiveThePlaceOn : Prop :=
  ∀ (p : Pos) (s t0 : State), p ≠ s.own → s.sharesLawful → ¬ s.grantedBy p →
    (s.takesFrame p .release [] t0 →
      (takesClassOne s p → exec (.release p) s = .next (if p ∈ s.heat.holders then
          { t0.silenceRestarted p with
            heat.holders := (tableWithout p t0.heat).1, heat.waits := (tableWithout p t0.heat).2 }
        else t0.silenceRestarted p)) ∧
      (¬ takesClassOne s p → exec (.release p) s = .next (t0.silenceRestarted p))) ∧
    (s.takesFrame p .withdraw [] t0 →
      (takesClassOne s p → exec (.withdraw p) s = .next { t0.silenceRestarted p with
        heat.holders := (tableWithout p t0.heat).1, heat.waits := (tableWithout p t0.heat).2 }) ∧
      (¬ takesClassOne s p → exec (.withdraw p) s = .next (t0.silenceRestarted p)))

/-- The station's own RELEASE, and its own WITHDRAW as a holder, bring its claim from RETURNING to NONE and
start the hold-off unless that is 0; its own WITHDRAW while it waits does so without the hold-off. Where no
hold-off then runs, a pending book claim is asked for, else a keep-warm claim that is due (R130, R133, R134,
R136, R141, R144). -/
def Obligations.OwnReturnEndsTheClaim : Prop :=
  ∀ (s t0 : State), s.role = some .press → (s.mem.members[s.own]).foreign = false →
    s.mem.station ≠ .halted → s.sharesLawful → s.heat.claim = .returning →
    let u : State := { t0 with
      heat.holders := (tableWithout s.own t0.heat).1, heat.waits := (tableWithout s.own t0.heat).2
      heat.claim := .none, heat.use := .none }
    let ended (c : Instr) : Prop := ∃ t, exec c s = .next t ∧
      (s.holdOffMs ≠ 0 → t = { u with heat.holdOff := some s.holdOffMs }) ∧
      (s.holdOffMs = 0 → holdOffEnds { u with heat.holdOff := none } t)
    (s.own ∈ s.heat.holders →
      (s.takesFrame s.own .release [] t0 → ended (.release s.own)) ∧
      (s.takesFrame s.own .withdraw [] t0 → ended (.withdraw s.own))) ∧
    ((∃ e ∈ s.heat.waits, e.position = s.own) → s.takesFrame s.own .withdraw [] t0 → ∃ t,
      exec (.withdraw s.own) s = .next t ∧ (s.heat.holdOff ≠ none → t = u) ∧
      (s.heat.holdOff = none → holdOffEnds u t))

/-- What an applied JOIN of another position writes into the tables: the sender is JOINING with its role and
foreign flag, its room heard closed, its silence timer at the JOINING limit (R47, R48, R50, R77). -/
def memberJoins (p : Pos) (role : Byte) (digest : W16) (u t : State) : Prop :=
  t = { u with
    mem.members := u.mem.members.set p.val
      ⟨.joining, Role.ofCode role.toNat, digest != u.params.digest⟩ p.isLt
    mem.silence := u.mem.silence.set p.val
      (some ((u.absenceLimit + 3) * u.beaconPeriod)) p.isLt
    zt.roomHeard := u.zt.roomHeard.set p.val false p.isLt }

/-- A grant of the station's own waiting claim, given by the RELEASE or WITHDRAW of another holder, by an
ABSENT that names a holder, this station's own ABSENT included, or by the JOIN of a holder that was JOINING or
RUNNING, reaches the book or the keep-warm it was asked for, once the notice has had its other effects; a
claim RETURNING gets GRANT_UNWANTED (R129 to R133, R138, R142, R151, R49, R51). That the grant comes after the
other effects of an absence is the model's choice (log entry 41). -/
def Obligations.GrantsReachTheClaim : Prop :=
  ∀ (p : Pos) (s t0 : State), s.role = some .press → s.sharesLawful →
    let reaches (c : Instr) (before : State → Prop) : Prop :=
      ∃ u t, exec c s = .next t ∧ before u ∧ grantReaches u t
    let without (u : State) : Prop := u = { t0.silenceRestarted p with
      heat.holders := (tableWithout p t0.heat).1, heat.waits := (tableWithout p t0.heat).2 }
    (p ≠ s.own → s.grantedBy p → (s.mem.members[p]).foreign = false →
      (s.takesFrame p .release [] t0 → reaches (.release p) without) ∧
      (s.takesFrame p .withdraw [] t0 → reaches (.withdraw p) without)) ∧
    (∀ q : Pos, q ≠ s.own → s.grantedBy q → s.takesFrame p .absent [byteOfPos q] t0 →
      reaches (.absent p (byteOfPos q)) (memberTaken p q s t0)) ∧
    (∀ (role : Byte) (digest : W16), p ≠ s.own → s.grantedBy p → s.mem.station ≠ .halted →
      s.takesFrame p .join (role :: bytes2 digest) t0 →
      (s.mem.members[p]).status = .joining ∨ (s.mem.members[p]).status = .running →
      ¬ (s.mem.station = .joining ∧ digest ≠ s.params.digest) →
      (s.mem.guardOpen = true → t0.bus.txq.length < 16) → ∃ u v t,
        exec (.joinNotice p role digest) s = .next t ∧
        u = { t0 with
          mem.stopSet := s.mem.stopSet.set p.val ⟨false, false, false, false, false⟩ p.isLt
          heat := { s.heat with
            holders := (tableWithout p s.heat).1, waits := (tableWithout p s.heat).2 }
          port := u.port } ∧
        u.port.latches[(15 : Fin 17)] = true ∧
        ⟨.memberRejoined, 0, .value (p.val + 1), s.port.stamp⟩ ∈ u.port.journal ∧
        grantReaches u v ∧ memberJoins p role digest v t)

/-- The laws of the share table hold after every applied CLAIM, RELEASE, WITHDRAW, ABSENT and JOIN if they
held before: no more holders than the budget, no position twice, KEEPWARM entries before BOOK entries,
and claims waiting only while the holders are full (R127). -/
def Obligations.ShareTableKeepsItsLaws : Prop :=
  ∀ (c : Instr) (p : Pos) (s t : State), s.sharesLawful →
    ((∃ b, c = .claim p b) ∨ c = .release p ∨ c = .withdraw p ∨ (∃ q, c = .absent p q) ∨
      ∃ r d, c = .joinNotice p r d) →
    exec c s = .next t → t.sharesLawful

/-- A length of `mm` fails the check of a record's format; without a format nothing fails (R66). -/
def lengthOff (s : State) (b : BookRecord) (mm : Nat) : Prop :=
  ∃ f ∈ b.format,
    mm + (s.params.formats[f]).tolerance.toNat < (s.params.formats[f]).nominal.toNat ∨
      (s.params.formats[f]).nominal.toNat + (s.params.formats[f]).tolerance.toNat < mm

/-- Keep-warm is judged in `u`, and `t` is what follows: a KEEPWARM claim is asked for where the keep-warm
conditions hold (R134, R141). Stated where the queue has a place for the CLAIM. -/
def warmthAsked (u t : State) : Prop :=
  let warm := u.role = some .press ∧ u.mem.station = .running ∧ u.heat.claim = .none ∧
    u.heat.holdOff = none ∧ u.heat.due = true ∧ u.heat.warm = true ∧
    (u.zt.zone ≠ [] ∨ u.zt.incoming ≠ []) ∧ u.work.press = .idle ∧ u.mem.guardOpen = false
  (warm → u.bus.txq.length < 16 → t = { u with
    bus.txq := u.bus.txq ++ [⟨.claim .keepwarm, 0⟩]
    heat.claim := .queued, heat.use := .keepwarm }) ∧
  (¬ warm → t = u)

/-- A HANDOVER applied at its target: a nonzero tag already held is dropped as DUPLICATE; else an adoptable
provisional record takes it, keeping a length of its own and checking it against the format it now has; else
with 4 incoming records it is dropped as INCOMING_OVERRUN; else it joins the tail of the incoming list with
the station's transit distance and a fresh open-time step, the room follows, with ROOM queued at a change of
standing in RUNNING, and keep-warm is judged (R84, R85, R141). A record taken with open time left 0 is marked
OPEN_TIME at once; that this mark comes before the mark LENGTH, and ROOM before a keep-warm claim, is the
model's choice (log entries 26 and 11). At any
other station, and from a foreign member, only the silence timer is touched (R62, R63, R66, R82). The sender
that applies its own HANDOVER drops the record as UNDELIVERED, with the VOID rule, where the target is
ABSENT, UNKNOWN or foreign, and otherwise does nothing more (R83, R87). -/
def Obligations.HandoversAreTakenOrUndelivered : Prop :=
  (∀ (p q : Pos) (image : RecordImage) (s t0 : State), p ≠ s.own →
    s.takesFrame p .handover (byteOfPos q :: image.toList) t0 →
    let u := t0.silenceRestarted p
    let b := recordOf image
    let held := b.tag ≠ 0 ∧ ((∃ z ∈ s.zt.zone, z.book.tag = b.tag) ∨
      ∃ r ∈ s.zt.incoming, r.book.tag = b.tag)
    let c : Instr := .handover p (byteOfPos q) image
    (q ≠ s.own ∨ (s.mem.members[p]).foreign = true → exec c s = .next u) ∧
    (q = s.own → (s.mem.members[p]).foreign = false →
      s.mem.station = .joining ∨ s.mem.station = .running → t0.bus.txq.length ≤ 14 →
      (held → ∃ t, exec c s = .next t ∧ t.zt = s.zt ∧
        t.bus.txq = t0.bus.txq ++ voidNotices b ∧ t.port.latches[(2 : Fin 17)] = true ∧
        t.port.journal.getLast? = some ⟨.duplicate, b.tag, .none, s.port.stamp⟩ ∧
        t = { u with bus := t.bus, port := t.port }) ∧
      (∀ z, ¬ held → s.zt.zone.find? (fun y => y.adoption.isSome) = some z →
        let takes (book : BookRecord) (port : PortUnit) : Prop := exec c s = .next { u with
          zt.zone := mapFirst (fun y => y.adoption.isSome)
            (fun y => { y with book := book, adoption := none, step := 0 }) s.zt.zone
          port := port }
        let noted := s.port.append .adopted b.tag .none
        let timed := if b.openTime = some 0 then b.addMark .openTime s.own else b
        let port := if b.openTime = some 0 then
          (noted.setLatch .openTime).append .openTime b.tag .none else noted
        (z.book.length = none → takes timed port) ∧
        (∀ mm, z.book.length = some mm →
          let kept : BookRecord := { timed with length := some mm }
          (¬ lengthOff s b mm → takes kept port) ∧
          (lengthOff s b mm → takes (kept.addMark .length s.own)
            ((port.setLatch .lengthFault).append .length b.tag (.value mm))))) ∧
      (¬ held → (∀ y ∈ s.zt.zone, y.adoption = none) → 4 ≤ s.zt.incoming.length → ∃ t,
        exec c s = .next t ∧ t.zt = s.zt ∧ t.bus.txq = t0.bus.txq ++ voidNotices b ∧
        t.port.latches[(2 : Fin 17)] = true ∧
        t.port.journal.getLast? = some ⟨.incomingOverrun, b.tag, .none, s.port.stamp⟩ ∧
        t = { u with bus := t.bus, port := t.port }) ∧
      (¬ held → (∀ y ∈ s.zt.zone, y.adoption = none) → s.zt.incoming.length < 4 → ∃ v t,
        exec c s = .next t ∧ warmthAsked v t ∧ roomFollows [] u v ∧
        v = { u with
          zt := { s.zt with
            incoming := s.zt.incoming ++
              [⟨if b.openTime = some 0 then b.addMark .openTime s.own else b, s.transitCounts, 0⟩]
            roomOpen := v.zt.roomOpen, announced := v.zt.announced }
          bus := v.bus
          port := if b.openTime = some 0 then
            (s.port.setLatch .openTime).append .openTime b.tag .none else s.port }))) ∧
  (∀ (q : Pos) (image : RecordImage) (s t0 : State),
    s.takesFrame s.own .handover (byteOfPos q :: image.toList) t0 →
    let m := s.mem.members[q]
    let gone := m.status = .absent ∨ m.status = .unknown ∨ m.foreign = true
    let b := recordOf image
    (¬ gone → exec (.handover s.own (byteOfPos q) image) s = .next t0) ∧
    (gone → s.mem.station = .joining ∨ s.mem.station = .running → t0.bus.txq.length ≤ 15 →
      ∃ port, exec (.handover s.own (byteOfPos q) image) s = .next { t0 with
        bus.txq := t0.bus.txq ++ voidNotices b, port := port } ∧
        port.latches[(2 : Fin 17)] = true ∧
        port.journal.getLast? = some ⟨.undelivered, b.tag, .value (q.val + 1), s.port.stamp⟩))

/-- An applied ROOM sets the room heard for a sender that is not foreign; an applied VOID from such a sender
joins the void list at CASE when it says lacks case and at JACKET when it says lacks jacket, the oldest
entry of a full list being discarded first, and housekeeping is judged; title key 0 and every other VOID
is ignored (R77, R88, R111, R112, R120). That a format byte above 15 counts as an absent format is the
model's choice (log entry 24). -/
def Obligations.RoomAndVoidReachTheirTables : Prop :=
  ∀ (p : Pos) (o f l : Byte) (key : Key) (s t0 : State),
    (s.takesFrame p .room [o] t0 → exec (.room p o) s = .next
      (if (s.mem.members[p]).foreign then t0.silenceRestarted p
       else { t0.silenceRestarted p with
         zt.roomHeard := s.zt.roomHeard.set p.val (o.getLsbD 0) p.isLt })) ∧
    (s.takesFrame p .void (bytes3 key ++ [f, l]) t0 →
      let u := t0.silenceRestarted p
      let named := (s.role = some .case ∧ l.getLsbD 0) ∨ (s.role = some .jacket ∧ l.getLsbD 1)
      let entry : VoidEntry := ⟨key, if h : f.toNat < 16 then some ⟨f.toNat, h⟩ else none⟩
      (¬ named ∨ key = 0 ∨ (s.mem.members[p]).foreign = true →
        exec (.void p key f l) s = .next u) ∧
      (named → key ≠ 0 → (s.mem.members[p]).foreign = false →
        (s.parts.voids.length < 16 → ∃ t, exec (.void p key f l) s = .next t ∧
          housekept { u with parts.voids := s.parts.voids ++ [entry] } t) ∧
        (∀ v rest, s.parts.voids = v :: rest → 16 ≤ s.parts.voids.length → ∃ t,
          exec (.void p key f l) s = .next t ∧ housekept { u with
            parts.voids := rest ++ [entry]
            port := s.port.append .voidOverflow 0 (.value v.key.toNat) } t)))

/-- An applied JOIN makes its sender JOINING with the JOIN's role, its foreign flag judged by the digest and
its room heard closed, and starts its silence timer at the JOINING limit; a sender that was JOINING or
RUNNING is first taken as absent and journalled MEMBER_REJOINED, one that was UNKNOWN or ABSENT is
journalled MEMBER_JOINED. The station's own JOIN starts its join window of three beacon periods. A
JOINING station that finds a differing digest halts with DIGEST_CLASH (R42, R44, R47 to R50). That the
own JOIN is journalled MEMBER_JOINED, and that the whole byte is the role code, is the model's choice (log
entries 18 and 53). -/
def Obligations.JoinsMakeMembers : Prop :=
  ∀ (p : Pos) (role : Byte) (digest : W16) (s t0 : State),
    s.takesFrame p .join (role :: bytes2 digest) t0 →
    let member : Member := ⟨.joining, Role.ofCode role.toNat, digest != s.params.digest⟩
    let known := (s.mem.members[p]).status = .joining ∨ (s.mem.members[p]).status = .running
    (s.mem.station = .joining → p ≠ s.own → digest ≠ s.params.digest → ∃ t,
      exec (.joinNotice p role digest) s = .next t ∧
      t.mem = { s.mem with station := .halted, haltReason := .digestClash } ∧
      t.zt = s.zt ∧ t.heat = s.heat) ∧
    (p ≠ s.own → ¬ (s.mem.station = .joining ∧ digest ≠ s.params.digest) →
      s.role ≠ some .press ∨ (s.sharesLawful ∧ ¬ s.grantedBy p) →
      s.mem.station ≠ .halted → ∃ t,
      exec (.joinNotice p role digest) s = .next t ∧
      t.mem = { s.mem with
        members := s.mem.members.set p.val member p.isLt
        silence := s.mem.silence.set p.val
          (some ((s.absenceLimit + 3) * s.beaconPeriod)) p.isLt
        stopSet := if known then s.mem.stopSet.set p.val Reasons.empty p.isLt
          else s.mem.stopSet } ∧
      t.zt = { s.zt with roomHeard := s.zt.roomHeard.set p.val false p.isLt } ∧
      t.bus = t0.bus ∧ t.port.latches[(15 : Fin 17)] = true ∧
      ⟨if known then .memberRejoined else .memberJoined, 0, .value (p.val + 1), s.port.stamp⟩
        ∈ t.port.journal ∧
      t.heat = (if s.role = some .press ∧ known then { s.heat with
        holders := (tableWithout p s.heat).1, waits := (tableWithout p s.heat).2 } else s.heat) ∧
      t = { s with mem := t.mem, zt := t.zt, bus := t.bus, heat := t.heat, port := t.port }) ∧
    (p = s.own → (s.mem.members[p]).status = .unknown → s.mem.station = .joining →
      exec (.joinNotice p role digest) s = .next { t0 with
        mem.members := s.mem.members.set p.val member p.isLt
        mem.joinWindow := some (3 * s.beaconPeriod)
        zt.roomHeard := s.zt.roomHeard.set p.val false p.isLt
        port := s.port.append .memberJoined 0 (.value (p.val + 1)) })

/-- An applied BEACON makes its sender RUNNING with the BEACON's role and the foreign flag its digest gives,
restarts its silence timer at the RUNNING limit, and sets its room heard unless it is foreign. In the
join window the first gives the stop set, and at PRESS the first with a share snapshot the share
table; a RUNNING PRESS station compares the snapshot, and a difference sets TABLE_DIVERGE. An adopted
snapshot that names the station's own position makes its claim RETURNING, queues WITHDRAW and is journalled
PROTOCOL. A JOINING station that finds a differing digest halts with DIGEST_CLASH (R43 to R48, R77, R145,
R146, R193). The model's choices: R43 has the first BEACON from a PRESS sender adopted, and a PRESS BEACON of
13 bytes, which carries no snapshot, does not count (log entry 17); the PROTOCOL names the own position and
the kind BEACON (log entry 20); later BEACONs of the window set the room heard too (log entry 51); and the stop
set is adopted, with its journal entry, before the share table, with PROTOCOL (log entry 59). -/
def Obligations.BeaconsMakeMembersRunning : Prop :=
  ∀ (p : Pos) (payload : List Byte) (s t0 : State), beaconLengthKnown payload.length = true →
    s.takesFrame p .beacon payload t0 →
    let c := beaconOf payload
    let same := c.digest = s.params.digest
    let mem : Membership := { s.mem with
      members := s.mem.members.set p.val ⟨.running, Role.ofCode c.roleCode, !same⟩ p.isLt
      silence := if p = s.own then s.mem.silence else s.mem.silence.set p.val
        (some (s.absenceLimit * s.beaconPeriod)) p.isLt }
    let heard : ZoneTracker := { s.zt with roomHeard := s.zt.roomHeard.set p.val c.room p.isLt }
    (s.mem.station = .joining → p ≠ s.own → ¬ same → ∃ t,
      exec (.beacon p payload) s = .next t ∧
      t.mem = { s.mem with station := .halted, haltReason := .digestClash } ∧
      t.zt = s.zt ∧ t.heat = s.heat) ∧
    (s.mem.station = .running → ¬ same →
      exec (.beacon p payload) s = .next { t0 with mem := mem }) ∧
    (s.mem.station = .running → same →
      exec (.beacon p payload) s = .next { t0 with
        mem := mem, zt := heard
        port := match c.shares with
          | none => s.port
          | some (holders, waits) =>
            if s.role = some .press ∧ ¬ (s.heat.holders = holders ∧ s.heat.waits = waits) then
              (s.port.setLatch .tableDiverge).append .tableDiverge 0 (.value (p.val + 1))
            else s.port }) ∧
    (s.mem.station = .joining → same →
      (s.role ≠ some .press ∨ s.mem.shareAdopted = true ∨ c.shares = none →
        exec (.beacon p payload) s = .next { t0 with
          zt := heard
          mem := { mem with
            stopSet := if s.mem.stopAdopted then s.mem.stopSet else c.stops
            stopAdopted := true }
          port := if s.mem.stopAdopted then s.port else s.linePort c.stops p }) ∧
      (∀ holders waits, s.role = some .press → s.mem.shareAdopted = false →
        c.shares = some (holders, waits) →
        let adopted : State := { t0 with
          zt := heard
          mem := { mem with
            stopSet := if s.mem.stopAdopted then s.mem.stopSet else c.stops
            stopAdopted := true, shareAdopted := true }
          port := if s.mem.stopAdopted then s.port else s.linePort c.stops p
          heat := { s.heat with holders := holders, waits := waits } }
        let named := s.own ∈ holders ∨ ∃ e ∈ waits, e.position = s.own
        (¬ named → exec (.beacon p payload) s = .next adopted) ∧
        (named → t0.bus.txq.length < 16 → exec (.beacon p payload) s = .next { adopted with
          heat := { adopted.heat with claim := .returning, use := .none }
          bus.txq := t0.bus.txq ++ [⟨.withdraw, 0⟩]
          port := adopted.port.append .protocol 0 (.pair (s.own.val + 1) 0x31) })))

/-! ### Membership timers and the join window -/

/-- `u` once a notice of kind `k` has been asked for with 16 waiting: TXQ_FULL is journalled with the kind, then
HALTED, the bus is detached with its queue emptied, and the reader and a waiting magazine entry are given up
(R30, R46, R17, R13, R108). -/
def queueOverrun (k : NoticeKind) (u : State) : State :=
  { u with
    mem.station := .halted, mem.haltReason := .txqFull
    bus := { attached := false, txq := [], frame := .none, drive := .none, quiet := u.bus.quiet }
    rd := { slot := none, window := none, assembly := [] }
    parts.magazine := u.parts.magazine.map fun e => { e with waiting := false }
    port := (u.port.append .txqFull 0 (.value (k.cls * 16 + k.code))).append .halted 0 (.value 2) }

/-- A silence timer that expires queues ABSENT for its member unless one waits, and stops. A beacon timer
that expires restarts and queues BEACON unless one waits. Either notice asked for with 16 waiting, and any
other asked for so in JOINING or RUNNING, halts the station with TXQ_FULL, the queue emptied and the bus
detached; TXQ_FULL is journalled with the kind of the notice (R50, R31, R45, R28, R30, R46). An expiry is taken
whenever its timer runs, TXQ_FULL is journalled before HALTED, and with tag 0 for a HANDOVER too, the
model's choices (log entries 5, 54 and 20). -/
def Obligations.TimersAnnounceOnce : Prop :=
  ∀ (p : Pos) (s : State),
    (s.mem.station = .joining ∨ s.mem.station = .running → s.mem.silence[p] ≠ none →
      let u : State := { s with mem.silence := s.mem.silence.set p.val none p.isLt }
      ((∃ e ∈ s.bus.txq, e.notice = .absent p) → exec (.silenceTimerExpiry p) s = .next u) ∧
      ((∀ e ∈ s.bus.txq, e.notice ≠ .absent p) →
        (s.bus.txq.length < 16 → exec (.silenceTimerExpiry p) s = .next { u with
          bus.txq := s.bus.txq ++ [⟨.absent p, 0⟩] }) ∧
        (16 ≤ s.bus.txq.length →
          exec (.silenceTimerExpiry p) s = .next (queueOverrun .absent u)))) ∧
    (s.mem.station = .running → s.mem.beaconTimer ≠ none →
      let u : State := { s with mem.beaconTimer := some s.beaconPeriod }
      ((∃ e ∈ s.bus.txq, e.notice = .beacon) → exec .beaconTimerExpiry s = .next u) ∧
      ((∀ e ∈ s.bus.txq, e.notice ≠ .beacon) →
        (s.bus.txq.length < 16 → exec .beaconTimerExpiry s = .next { u with
          bus.txq := s.bus.txq ++ [⟨.beacon, 0⟩] }) ∧
        (16 ≤ s.bus.txq.length → exec .beaconTimerExpiry s = .next (queueOverrun .beacon u)))) ∧
    (s.mem.station = .joining ∨ s.mem.station = .running → 16 ≤ s.bus.txq.length →
      ∀ n : Notice, s.queue n = queueOverrun n.kind s)

/-- At the end of its join window the station enters RUNNING: RUNNING is journalled, the beacon timer starts,
a BEACON is queued, and the filtered levels of the eyes, the guard and the cycle-done input are set to
the inputs as found, without an edge; a guard found open adds GUARD and queues STOP (R43, R45, R75,
R99, R117). The end is taken whenever the window runs, with the levels that the command gives, and the BEACON
is asked for before GUARD is added, the model's choice (log entries 5, 7 and 47). -/
def Obligations.JoinWindowEndEntersRunning : Prop :=
  ∀ (pins : InputPins) (s : State), s.mem.station = .joining → s.mem.joinWindow ≠ none →
    s.joiningLawful → s.mem.ownStop.guard = false → s.heat.pendingBook = false →
    s.heat.due = false → s.bus.txq.length ≤ 14 →
    let magazine := s.role = some .case ∨ s.role = some .jacket
    let light (i : Fin 20) : Bool := s.params.station[i] == 1
    let reasons : Reasons := { s.mem.ownStop with guard := !pins.guard }
    ∃ t, exec (.joinWindowEnd pins) s = .next t ∧
      t.mem = { s.mem with
        station := .running, joinWindow := none, beaconTimer := some s.beaconPeriod
        guardOpen := !pins.guard, ownStop := reasons } ∧
      t.zt = { s.zt with eyes :=
        { entry := pins.entry != light 2, work := pins.work != light 3
          exit := pins.exit != light 4
          fourth := decide (magazine ∨ s.role = some .gate) && (pins.fourth != light 5) } } ∧
      t.work = { s.work with doneOn := decide magazine && pins.done } ∧
      t.bus = { s.bus with txq := s.bus.txq ++ [⟨.beacon, 0⟩] ++
        (if pins.guard then [] else [⟨.stop reasons, 0⟩]) } ∧
      ⟨.running, 0, .none, s.port.stamp⟩ ∈ t.port.journal ∧
      t = { s with mem := t.mem, zt := t.zt, work := t.work, bus := t.bus, port := t.port }

/-! ### The reader -/

/-- The eight bytes of an ID frame with a right check byte, as they come on the reader line. -/
def idBytes (key : Key) (copy : W16) (f : Byte) : List ReaderByte :=
  let fields := bytes3 key ++ bytes2 copy ++ [f]
  ([0xA5] ++ fields ++ [fields.foldl (· ^^^ ·) 0]).map fun b => ⟨b, true⟩

/-- The format that a format byte names at this station, if it lies from 0 to 15 with a valid entry. -/
def formatNamed (s : State) (f : Byte) : Option FormatIx :=
  if h : f.toNat < 16 then
    if (s.params.formats[f.toNat]).valid = 1 then some ⟨f.toNat, h⟩ else none
  else none

/-- A good ID goes to the record or entry whose read window runs, else into the slot, where it replaces
another as ID_OVERRUN. At INFEED it gives the AT_WORK record its identity and work is done, with
BAD_FORMAT where its format is not valid; at CASE and JACKET it fills the entry that waits. A frame
with a wrong check byte, one with title key or copy 0, and one that a gap breaks are READ_ERROR; at
other roles and states the reader line has no effect (R11, R12, R13, R15, R107, R108).
A read window that runs out marks INFEED's AT_WORK record NO_ID and ends its work; at CASE and JACKET
the entry that waited stays blank, journalled BLANK_ENTRY, and is waited for no more. Either end of such a
window lets a WAITING record be matched or passed, or housekeeping be judged (R13, R15, R108, R120,
R121). An expiry is taken whenever its timer runs; housekeeping is judged whichever entry waited; and a
WAITING record that is REJECT is passed though doubt is set: the model's choices (log entries 5, 42 and
43). -/
def Obligations.IdsAndReadWindows : Prop :=
  (∀ (key : Key) (copy : W16) (f : Byte) (s : State),
    let reads := s.mem.station = .running ∧
      (s.role = some .infeed ∨ s.role = some .case ∨ s.role = some .jacket)
    let format := formatNamed s f
    let good := exec (.idFrame (idBytes key copy f)) s
    (reads → s.rd.assembly = [] → key ≠ 0 → copy ≠ 0 →
      (s.rd.window = none → good = .next { s with
        rd.slot := some ⟨key, copy, f⟩
        port := match s.rd.slot with
          | none => s.port
          | some old => s.port.append .idOverrun 0 (.value old.key.toNat) }) ∧
      (s.rd.window ≠ none → s.role = some .infeed → good = .next { s with
        rd.window := none
        zt.zone := mapFirst (fun y => y.phase == .atWork)
          (fun y =>
            let b := { y.book with key := some key, copy := some copy, format := format }
            { y with
              book := if format = none then b.addMark .badFormat s.own else b
              phase := .worked }) s.zt.zone }) ∧
      (s.rd.window ≠ none → s.role ≠ some .infeed → ∃ t, good = .next t ∧ waitEnds { s with
        rd.window := none
        parts.magazine := s.parts.magazine.map fun e =>
          if e.waiting then { e with key := some key, format := format, waiting := false }
          else e } t)) ∧
    (reads → s.rd.assembly = [] → ∀ check,
      key = 0 ∨ copy = 0 ∨ check ≠ ((bytes3 key ++ bytes2 copy ++ [f]).foldl (· ^^^ ·) 0) →
      exec (.idFrame (([0xA5] ++ bytes3 key ++ bytes2 copy ++ [f] ++ [check]).map (⟨·, true⟩))) s =
        .next { s with port := s.port.append .readError 0 .none }) ∧
    (reads → s.rd.assembly ≠ [] → exec .readerGapTimeout s = .next { s with
      rd.assembly := [], port := s.port.append .readError 0 .none }) ∧
    (¬ reads → good = .next s ∧ exec .readerGapTimeout s = .next s)) ∧
  (∀ s : State, s.mem.station = .running → s.rd.window ≠ none →
    (s.role = some .infeed → exec .readWindowExpiry s = .next { s with
      rd.window := none
      zt.zone := mapFirst (fun y => y.phase == .atWork)
        (fun y => { y with book := y.book.addMark .noId s.own, phase := .worked }) s.zt.zone }) ∧
    (∀ e, s.role = some .case ∨ s.role = some .jacket →
      s.parts.magazine.find? PartEntry.waiting = some e → ∃ t,
      exec .readWindowExpiry s = .next t ∧ waitEnds { s with
        rd.window := none
        parts.magazine := s.parts.magazine.map fun e => { e with waiting := false }
        port := s.port.append .blankEntry 0 (.value e.arrival.toNat) } t))

/-! ### Distances and the entry eye -/

/-- In RUNNING an encoder count advances the length count that runs and every adoption, transit and confirm
distance, and nothing else; in other states it has no effect. An adoption distance run out makes the
oldest adoptable record anonymous, marked UNKNOWN. A transit distance run out makes the incoming head
leave the line as MISSING, with the VOID rule (R56, R61, R64, R87). An expiry is taken
whenever its distance is set, and a VOID stands in the queue before ROOM: the model's choices (log
entries 5 and 11). -/
def Obligations.DistancesRunByEncoderCounts : Prop :=
  ∀ s : State,
    (s.mem.station ≠ .running → exec .encoderCount s = .next s) ∧
    (s.mem.station = .running → exec .encoderCount s = .next { s with
      zt.lengthCount :=
        if (∃ z ∈ s.zt.zone, z.counting = true) then s.zt.lengthCount + 1 else s.zt.lengthCount
      zt.zone := s.zt.zone.map fun z => { z with adoption := z.adoption.map (· - 1) }
      zt.incoming := s.zt.incoming.map fun r => { r with transit := r.transit - 1 }
      work.divert := s.work.divert.map (· - 1) }) ∧
    (s.mem.station = .running → (∃ z ∈ s.zt.zone, z.adoption ≠ none) →
      exec .adoptionDistanceExpiry s = .next { s with
        zt.zone := mapFirst (fun y => y.adoption.isSome)
          (fun y => { y with adoption := none, book := y.book.addMark .unknown s.own }) s.zt.zone
        port := (s.port.setLatch .arrivalUnknown).append .arrivalUnknown 0 .none }) ∧
    (∀ r rest, s.mem.station = .running → s.zt.incoming = r :: rest → s.bus.txq.length ≤ 14 → ∃ t,
      exec .transitDistanceExpiry s = .next t ∧ t.zt.incoming = rest ∧ t.zt.zone = s.zt.zone ∧
      departed r.book s t ∧ t.work = s.work ∧ t.rd = s.rd ∧
      t.port.latches[(1 : Fin 17)] = true ∧
      t.port.journal.getLast? = some ⟨.missing, r.book.tag, .none, s.port.stamp⟩)

/-- The zone list with a record at its tail whose length count runs alone. -/
def enteredZone (s : State) (z : ZoneRecord) : List ZoneRecord :=
  s.zt.zone.map (fun y => { y with counting := false }) ++ [z]

/-- An entry leading edge at INFEED creates a record with the next tag. Elsewhere it takes the incoming head
into the zone list with its countdown step, or with none creates a provisional record, anonymous at once
where the adoption distance is 0, after which keep-warm is judged. With 8 records in the zone list INFEED and
an empty incoming list drop no record; an incoming head is dropped as ZONE_OVERRUN (R14, R59, R60, R61, R65,
R85, R141). The model's choices: a length count that still runs ends unstored (log entry 6), a VOID stands in
the queue before ROOM, and ROOM before a keep-warm claim (log entry 11), ZONE_OVERRUN has the tag of the head
it drops (log entry 20), and an overrun at INFEED leaves the incoming list as it is (log entry 22). -/
def Obligations.EntryEdgesTakeTheNextRecord : Prop :=
  ∀ s : State, s.mem.station = .running → s.bus.txq.length ≤ 14 →
    let edge := exec .entryLeadingEdge s
    let overrun : State := { s with
      zt.eyes.entry := true
      port := (s.port.append .zoneOverrun 0 .none).setLatch .recordDropped }
    let blank (tag : W16) : BookRecord := ⟨tag, none, none, none, none, none, 0, false, none, none,
      .good, []⟩
    (s.role = some .infeed → s.zt.zone.length < 8 → ∃ t, edge = .next t ∧
      t.zt.zone = enteredZone s ⟨blank s.zt.tagCounter, .entering, none, true, false, 0⟩ ∧
      t.zt.tagCounter = (if s.zt.tagCounter = 0xFFFF then 1 else s.zt.tagCounter + 1) ∧
      t.zt.lengthCount = 0 ∧ t.zt.eyes = { s.zt.eyes with entry := true } ∧
      t.zt.incoming = s.zt.incoming ∧ roomFollows [] s t ∧
      t = { s with zt := t.zt, bus := t.bus }) ∧
    (8 ≤ s.zt.zone.length → s.role = some .infeed ∨ s.zt.incoming = [] → edge = .next overrun) ∧
    (s.role ≠ some .infeed →
      (∀ r rest, s.zt.zone.length < 8 → s.zt.incoming = r :: rest → edge = .next { s with
        zt.eyes.entry := true, zt.incoming := rest, zt.lengthCount := 0
        zt.zone := enteredZone s ⟨r.book, .entering, none, true, false, r.step⟩ }) ∧
      (s.zt.zone.length < 8 → s.zt.incoming = [] → ∃ v t, edge = .next t ∧ warmthAsked v t ∧
        roomFollows [] s v ∧ v = { s with
          zt := { s.zt with
            eyes := { s.zt.eyes with entry := true }
            zone := enteredZone s
              (if s.adoptionCounts = 0 then
                ⟨(blank 0).addMark .unknown s.own, .entering, none, true, false, 0⟩
              else ⟨blank 0, .entering, some s.adoptionCounts, true, false, 0⟩)
            lengthCount := 0, roomOpen := v.zt.roomOpen, announced := v.zt.announced }
          bus := v.bus
          port := if s.adoptionCounts = 0 then
            (s.port.setLatch .arrivalUnknown).append .arrivalUnknown 0 .none else s.port }) ∧
      (∀ r rest, 8 ≤ s.zt.zone.length → s.zt.incoming = r :: rest → ∃ t, edge = .next t ∧
        t.zt.zone = s.zt.zone ∧ t.zt.incoming = rest ∧ departed r.book s t ∧
        t.port.latches[(2 : Fin 17)] = true ∧
        t.port.journal.getLast? = some ⟨.zoneOverrun, r.book.tag, .none, s.port.stamp⟩))

/-- The press work back in IDLE. -/
def pressIdle (w : WorkSequencer) : WorkSequencer :=
  { w with
    press := .idle, book := ⟨0, 0, false, false, false⟩, heat := none, setLeft := none
    suspendLeft := none }

/-- A mark has come to the AT_WORK record of a PRESS station in WAIT_SHARE, which `u` already shows: the
claim is given up, the clamp opens, and the record's work is done (R155, R157). With the claim NONE keep-warm is
then judged (R141); in every other state no claim can be asked for. That a claim HOLDING for keep-warm with no
burst is given back by RELEASE is the model's choice (log entry 44). -/
def leavesWaitShare (u : State) (o : Host.Outcome State Fault Refusal) : Prop :=
  let done : State := { u with
    zt.zone := mapFirst (fun y => y.phase == .atWork) workDone u.zt.zone
    heat.pendingBook := false
    work := pressIdle u.work }
  (u.heat.claim = .queued ∨ u.heat.claim = .waiting → u.bus.txq.length < 16 →
    o = .next { done with
      bus.txq := u.bus.txq ++ [⟨.withdraw, 0⟩]
      heat.claim := .returning, heat.use := .none, heat.claimWait := none }) ∧
  (u.heat.claim = .holding → u.bus.txq.length < 16 →
    o = .next { done with
      bus.txq := u.bus.txq ++ [⟨.release, 0⟩]
      heat.claim := .returning, heat.use := .none }) ∧
  (u.heat.claim = .returning → o = .next done) ∧
  (u.heat.claim = .none → ∃ t, o = .next t ∧ warmthAsked done t)

/-- An entry trailing edge stores the measured length in the record whose count runs, in whole mm and at most
1023, and checks it against the record's format: out of tolerance the record is marked LENGTH, the
latch set and LENGTH journalled with the mm; without a format nothing is checked. The AT_WORK record of a
PRESS station in WAIT_SHARE then gives its claim up and its work is done, and keep-warm is judged. With no
count running it is EYE_ORDER 1 (R65, R66, R8, R157, R141). That a claim HOLDING for keep-warm with no burst is
given back by RELEASE is the model's choice (log entry 44). -/
def Obligations.EntryTrailingEdgeMeasuresTheRecord : Prop :=
  ∀ s : State, s.mem.station = .running →
    ((∀ z ∈ s.zt.zone, z.counting = false) → exec .entryTrailingEdge s = .next { s with
      zt.eyes.entry := false, port := s.port.append .eyeOrder 0 (.value 1) }) ∧
    (∀ z, s.zt.zone.find? (fun y => y.counting) = some z →
      let mm := min 1023 (s.zt.lengthCount / s.scale)
      let stored : BookRecord := { z.book with length := some mm }
      let storing (b : BookRecord) : State := { s with
        zt.eyes.entry := false
        zt.zone := mapFirst (fun y => y.counting)
          (fun y => { y with book := b, counting := false }) s.zt.zone }
      let marked : State := { storing (stored.addMark .length s.own) with
        port := (s.port.setLatch .lengthFault).append .length z.book.tag (.value mm) }
      let waits := z.phase = .atWork ∧ s.role = some .press ∧ s.work.press = .waitShare
      (¬ lengthOff s z.book mm → exec .entryTrailingEdge s = .next (storing stored)) ∧
      (lengthOff s z.book mm → ¬ waits → exec .entryTrailingEdge s = .next marked) ∧
      (lengthOff s z.book mm → waits →
        leavesWaitShare marked (exec .entryTrailingEdge s)))

/-- Open time that reaches 0 on a record in either list marks it OPEN_TIME at this position, which removes
the field and makes it REJECT, sets the latch and journals OPEN_TIME with the tag; the record keeps its
place and its phase. The AT_WORK record of a PRESS station in WAIT_SHARE gives its claim up, its work is done,
and keep-warm is judged (R90, R5, R155, R141). The model's choices: an expiry is taken whenever open time is
present (log entry 5), and a claim HOLDING for keep-warm with no burst is given back by RELEASE (log entry
44). -/
def Obligations.OpenTimeExpiryMarksTheRecord : Prop :=
  ∀ (i : Nat) (s : State), s.mem.station = .joining ∨ s.mem.station = .running →
    let port (tag : W16) := (s.port.setLatch .openTime).append .openTime tag .none
    (∀ r, s.zt.incoming[i]? = some r → r.book.openTime ≠ none →
      exec (.openTimeExpiry (.incoming i)) s = .next { s with
        zt.incoming := s.zt.incoming.set i { r with book := r.book.addMark .openTime s.own }
        port := port r.book.tag }) ∧
    (∀ z, s.zt.zone[i]? = some z → z.book.openTime ≠ none →
      let marked := s.zt.zone.set i { z with book := z.book.addMark .openTime s.own }
      (¬ (z.phase = .atWork ∧ s.role = some .press ∧ s.work.press = .waitShare) →
        exec (.openTimeExpiry (.zone i)) s = .next { s with
          zt.zone := marked, port := port z.book.tag }) ∧
      (z.phase = .atWork → s.role = some .press → s.work.press = .waitShare →
        leavesWaitShare { s with zt.zone := marked, port := port z.book.tag }
          (exec (.openTimeExpiry (.zone i)) s)))

/-! ### The work point -/

/-- The record at the work point as the work edge finds it: AT_WORK, and anonymous with mark UNKNOWN if it
was still adoptable. -/
def atWorkNow (s : State) (z : ZoneRecord) : ZoneRecord :=
  { z with
    phase := .atWork, adoption := none
    book := if z.adoption.isSome then z.book.addMark .unknown s.own else z.book }

/-- The state in which the role's work begins: `z`, the oldest ENTERING record, has become `y`. -/
def workBegins (s : State) (z y : ZoneRecord) : State :=
  { s with
    zt.eyes.work := true
    zt.zone := mapFirst (fun x => x.phase == .entering) (fun _ => y) s.zt.zone
    port := if z.adoption.isSome then
      (s.port.setLatch .arrivalUnknown).append .arrivalUnknown 0 .none else s.port }

/-- `z` is the record that the work edge makes AT_WORK: the oldest ENTERING one, with none AT_WORK. -/
def goesToWork (s : State) (z : ZoneRecord) : Prop :=
  s.mem.station = .running ∧ s.atWork? = none ∧
    s.zt.zone.find? (fun y => y.phase == .entering) = some z

/-- A work leading edge makes the oldest ENTERING record AT_WORK and begins the role's work on it. With a
record AT_WORK it is EYE_ORDER 2; with none ENTERING and 8 in the list it is dropped with no record, and
with fewer it becomes an anonymous record AT_WORK, marked UNKNOWN, and the room follows, with ROOM queued at a
change of standing and at PRESS keep-warm judged after it (R84, R85, R141; log entry 11). At INFEED the record takes the ID of the
slot, or a read window opens. At GATE an anonymous, REJECT or incomplete record is diverted and a complete
one passed and counted. A trailing edge changes the filtered level alone (R54, R67, R68, R15, R169, R170, R171, R172).
-/
def Obligations.WorkEdgeBeginsInfeedAndGateWork : Prop :=
  ∀ s : State,
    (s.mem.station = .running → exec (.workLeadingEdge .opposite) s = .next { s with
      zt.eyes.work := false }) ∧
    (s.mem.station = .running → s.atWork? ≠ none → exec (.workLeadingEdge .named) s = .next { s with
      zt.eyes.work := true, port := s.port.append .eyeOrder 0 (.value 2) }) ∧
    (s.mem.station = .running → s.atWork? = none → (∀ z ∈ s.zt.zone, z.phase ≠ .entering) →
      (8 ≤ s.zt.zone.length → exec (.workLeadingEdge .named) s = .next { s with
        zt.eyes.work := true
        port := (s.port.append .zoneOverrun 0 .none).setLatch .recordDropped }) ∧
      (s.zt.zone.length < 8 → s.bus.txq.length ≤ 14 → s.role ≠ none → ∃ t,
        exec (.workLeadingEdge .named) s = .next t ∧ t.port.latches[(0 : Fin 17)] = true ∧
        (t.zt.roomOpen = true ↔ s.roomMargin + t.zt.zone.length + t.zt.incoming.length < 8) ∧
        t.zt.zone = s.zt.zone ++ [⟨⟨0, none, none, none, none, none, 0, false, none, none, .reject,
          [⟨.unknown, s.own⟩]⟩, if s.role = some .gate then .atWork else .worked, none, false, false,
          0⟩] ∧
        ⟨.arrivalUnknown, 0, .none, s.port.stamp⟩ ∈ t.port.journal ∧
        ∃ v, roomFollows [] s v ∧ v.zt = t.zt ∧
          (s.role = some .press → warmthAsked v t) ∧ (s.role ≠ some .press → v.bus = t.bus))) ∧
    (∀ z, goesToWork s z →
      let y := atWorkNow s z
      let b := y.book
      (s.role = some .infeed →
        (b.tag ≠ 0 → s.rd.slot = none → exec (.workLeadingEdge .named) s = .next { workBegins s z y with
          rd.window := some s.readWindowMs }) ∧
        (∀ i, b.tag ≠ 0 → s.rd.slot = some i →
          let named : BookRecord := { b with
            key := some i.key, copy := some i.copy, format := formatNamed s i.format }
          exec (.workLeadingEdge .named) s = .next { workBegins s z (workDone { y with
            book := if formatNamed s i.format = none then named.addMark .badFormat s.own
              else named }) with rd.slot := none }) ∧
        (b.tag = 0 → s.rd.slot = none →
          exec (.workLeadingEdge .named) s = .next (workBegins s z (workDone y))) ∧
        (∀ i, b.tag = 0 → s.rd.slot = some i →
          let u := workBegins s z (workDone y)
          exec (.workLeadingEdge .named) s = .next { u with
            rd.slot := none, port := u.port.append .idDiscarded 0 (.value i.key.toNat) })) ∧
      (s.role = some .gate →
        let lacks := b.caseMarriage = none ∨ b.pressed = false ∨ (b.jacketMarriage = none ∧
          ∃ p : Pos, p < s.own ∧ (s.mem.members[p]).role = some .jacket ∧
            (s.mem.members[p]).status ≠ .unknown)
        (b.tag = 0 ∨ b.verdict = .reject →
          exec (.workLeadingEdge .named) s = .next { workBegins s z y with
            work.divert := some s.confirmCounts }) ∧
        (b.tag ≠ 0 → b.verdict = .good → lacks →
          let u := workBegins s z { y with book := b.addMark .incomplete s.own }
          exec (.workLeadingEdge .named) s = .next { u with
            port := u.port.append .incomplete b.tag .none
            work.divert := some s.confirmCounts }) ∧
        (b.tag ≠ 0 → b.verdict = .good → ¬ lacks →
          let u := workBegins s z (workDone y)
          exec (.workLeadingEdge .named) s = .next { u with port.passed := u.port.passed + 1 })))

/-- At PRESS a REJECT, anonymous or pressed record is passed; a GOOD record without a case marriage is marked
NO_CASE and passed; either way keep-warm is judged once the work is done. A GOOD cased record that is not
pressed is pressed: its station allowance is the heat its format still asks, at most max heat per book. It
takes over a keep-warm burst and heats at once without preheat, or it enters WAIT_SHARE: it takes over a
keep-warm claim that is queued or waits, queues CLAIM(BOOK) where the claim is NONE and no hold-off runs, or
holds a pending book claim (R148, R150, R158, R134, R141, R144). That it holds a pending book claim while the
claim is HOLDING for keep-warm with no burst, and that its allowance is 0 where its heat done is above the
heat time though it is not pressed, is the model's choice (log entries 44 and 28). -/
def Obligations.WorkEdgeBeginsPressWork : Prop :=
  ∀ (s : State) (z : ZoneRecord), goesToWork s z → s.role = some .press →
    let y := atWorkNow s z
    let b := y.book
    let u := workBegins s z y
    let edge := exec (.workLeadingEdge .named) s
    (b.verdict = .reject ∨ b.tag = 0 ∨ b.pressed = true → ∃ t, edge = .next t ∧
      warmthAsked (workBegins s z (workDone y)) t) ∧
    (b.verdict = .good → b.tag ≠ 0 → b.pressed = false → b.caseMarriage = none →
      let v := workBegins s z (workDone { y with book := b.addMark .noCase s.own })
      ∃ t, edge = .next t ∧
        warmthAsked { v with port := v.port.append .noCase b.tag .none } t) ∧
    (∀ f, b.verdict = .good → b.tag ≠ 0 → b.pressed = false → b.caseMarriage ≠ none →
      b.format = some f →
      let allowance := min ((s.params.formats[f]).heat.toNat - b.heatDone) s.maxHeat
      let taken : PressBook := ⟨allowance, 0, false, false, false⟩
      let waits : State := { u with work := { s.work with press := .waitShare, book := taken } }
      (s.heat.claim = .holding → s.heat.use = .keepwarm → s.heat.burst ≠ none →
        edge = .next { workBegins s z { y with book := { b with openTime := none } } with
          heat := { s.heat with use := .book, burst := none, warmLeft := none, due := false }
          work := { s.work with press := .heat, book := taken, heat := some ⟨0, allowance, 0⟩ } }) ∧
      (s.heat.claim = .queued ∨ s.heat.claim = .waiting → s.heat.use = .keepwarm →
        edge = .next { waits with heat.use := .book }) ∧
      (s.heat.claim = .none → s.heat.holdOff = none → s.bus.txq.length < 16 →
        edge = .next { waits with
          heat.claim := .queued, heat.use := .book
          bus.txq := s.bus.txq ++ [⟨.claim .book, 0⟩] }) ∧
      (s.heat.claim = .returning ∨ (s.heat.claim = .none ∧ s.heat.holdOff ≠ none) ∨
          (s.heat.claim = .holding ∧ s.heat.use = .keepwarm ∧ s.heat.burst = none) →
        edge = .next { waits with heat.pendingBook := true }))

/-- At CASE and JACKET a record that asks for no part is passed, at JACKET one not cased is marked NO_CASE
and one not pressed UNDERPRESSED; work done judges housekeeping. A record that asks for one waits while a
cycle or a read window runs, and is matched at once otherwise: with doubt set or no match within the
lookahead it is marked NO_CASE or NO_JACKET with MATCH_FAIL; a match at the head starts the cycle and
writes the marriage, at CASE with open time W; a match further on starts the skips (R113, R114, R115,
R116, R120, R121, R166, R167). -/
def Obligations.WorkEdgeMatchesTheRecord : Prop :=
  ∀ (s : State) (z : ZoneRecord), goesToWork s z → s.role = some .case ∨ s.role = some .jacket →
    let y := atWorkNow s z
    let b := y.book
    let u := workBegins s z y
    let sound := b.verdict = .good ∧ b.tag ≠ 0
    let asks := sound ∧ (s.role = some .case → b.caseMarriage = none) ∧
      (s.role = some .jacket → b.jacketMarriage = none ∧ b.caseMarriage ≠ none ∧ b.pressed = true)
    let free := s.work.cycle = none ∧ s.rd.window = none
    let marked (k : MarkKind) : ZoneRecord → ZoneRecord :=
      ZoneRecord.onBook (BookRecord.addMark k s.own)
    ∃ t, exec (.workLeadingEdge .named) s = .next t ∧
      (¬ sound ∨ (s.role = some .case ∧ b.caseMarriage ≠ none) ∨
        (s.role = some .jacket ∧ b.jacketMarriage ≠ none) → partsEnd id u t) ∧
      (sound → s.role = some .jacket → b.jacketMarriage = none →
        (b.caseMarriage = none → partsEnd (marked .noCase)
          { u with port := u.port.append .noCase b.tag .none } t) ∧
        (b.caseMarriage ≠ none → b.pressed = false → partsEnd (marked .underpressed)
          { u with port := u.port.append .underpressed b.tag (.value b.heatDone) } t)) ∧
      (asks → ¬ free → t = { u with work.parts := .waiting }) ∧
      (asks → free → matched b u t)

/-! ### The exit, and the gate's reject path -/

/-- An exit trailing edge takes the WORKED head out of the zone list: retired and counted at the END station,
handed to the downstream peer with its countdown step by a queued HANDOVER elsewhere, or dropped as
NO_PEER where there is no peer. With an empty list or a head not WORKED it is EYE_ORDER 3 and nothing
leaves; a leading edge changes the filtered level alone (R54, R70, R71, R72, R78, R80, R86). That the
HANDOVER or VOID stands in the queue before ROOM is the model's choice (log entry 11). -/
def Obligations.ExitEdgeTakesTheWorkedHead : Prop :=
  ∀ s : State, s.mem.station = .running →
    exec (.exitTrailingEdge .opposite) s = .next { s with zt.eyes.exit := true } ∧
    ((∀ z, s.zt.zone.head? = some z → z.phase ≠ .worked) → exec (.exitTrailingEdge .named) s = .next { s with
      zt.eyes.exit := false, port := s.port.append .eyeOrder 0 (.value 3) }) ∧
    (∀ z rest, s.zt.zone = z :: rest → z.phase = .worked → s.bus.txq.length ≤ 14 →
      ∃ t, exec (.exitTrailingEdge .named) s = .next t ∧ t.zt.zone = rest ∧ t.zt.incoming = s.zt.incoming ∧
        t.zt.eyes = { s.zt.eyes with exit := false } ∧ t.work = s.work ∧ t.rd = s.rd ∧
        t.mem = s.mem ∧ t.params = s.params ∧ t.heat = s.heat ∧ t.parts = s.parts ∧
        (s.params.straps.isEnd = true → departed z.book s t ∧
          t.port.retired = s.port.retired + 1 ∧
          t.port.journal.getLast? = some ⟨.retired, z.book.tag, .none, s.port.stamp⟩) ∧
        (s.params.straps.isEnd = false →
          (∀ p : Pos, s.own < p → (s.mem.members[p]).status ≠ .unknown →
            (∀ q : Pos, s.own < q → q < p → (s.mem.members[q]).status = .unknown) →
            roomFollows [⟨.handover p z.book z.step, 0⟩] s t ∧ t.port = s.port) ∧
          ((∀ p : Pos, s.own < p → (s.mem.members[p]).status = .unknown) →
            departed z.book s t ∧ t.port.latches[(2 : Fin 17)] = true ∧
            t.port.journal.getLast? = some ⟨.noPeer, z.book.tag, .none, s.port.stamp⟩)))

/-- At GATE a confirm edge in DIVERTING takes the record at work off the line as DIVERTED and counts it; one
taken in IDLE is STRAY_DIVERT with the head's tag and has no other effect. A confirm distance that runs
out fails the divert: the record is marked DIVERT_FAIL, stays as WORKED with the divert-failed standing,
and DIVERT_FAIL joins the own stop reasons (R173, R174, R176, R73, R96). An expiry is taken
whenever a divert is in progress, and a VOID stands in the queue before ROOM: the model's choices (log
entries 5 and 11). A trailing edge of the confirm eye changes the filtered level alone (R176). -/
def Obligations.DivertsAreConfirmedOrFail : Prop :=
  ∀ s : State, s.mem.station = .running → s.role = some .gate →
    exec (.confirmEyeLeadingEdge .opposite) s = .next { s with zt.eyes.fourth := false } ∧
    (s.work.divert = none → exec (.confirmEyeLeadingEdge .named) s = .next { s with
      zt.eyes.fourth := true
      port := s.port.append .strayDivert
        (match s.zt.zone with | [] => 0 | z :: _ => z.book.tag) .none }) ∧
    (∀ z, s.work.divert ≠ none → s.atWork? = some z → s.bus.txq.length ≤ 14 →
      (∃ t, exec (.confirmEyeLeadingEdge .named) s = .next t ∧
        t.zt.zone = s.zt.zone.eraseP (fun y => y.phase == .atWork) ∧
        t.zt.incoming = s.zt.incoming ∧ departed z.book s t ∧
        t.work = { s.work with divert := none } ∧ t.port.diverted = s.port.diverted + 1 ∧
        t.port.journal.getLast? = some ⟨.diverted, z.book.tag, .none, s.port.stamp⟩) ∧
      (∃ t, exec .confirmDistanceExpiry s = .next t ∧
        t.zt = { s.zt with
          zone := mapFirst (fun y => y.phase == .atWork)
            (fun y => { y with
              book := y.book.addMark .divertFail s.own, divertFailed := true, phase := .worked })
            s.zt.zone } ∧
        t.work = { s.work with divert := none } ∧
        t.mem = { s.mem with ownStop := { s.mem.ownStop with divertFail := true } } ∧
        t.bus = (if s.mem.ownStop.divertFail then s.bus else
          { s.bus with txq := s.bus.txq ++ [⟨.stop { s.mem.ownStop with divertFail := true }, 0⟩] }) ∧
        t.port.latches[(4 : Fin 17)] = true ∧
        t.port.journal.getLast? = some ⟨.divertFail, z.book.tag, .none, s.port.stamp⟩ ∧
        t.port.diverted = s.port.diverted ∧ t.heat = s.heat ∧ t.parts = s.parts))

/-! ### The magazine and its cycles -/

/-- A feed eye leading edge at CASE and JACKET appends an entry with the next arrival number and judges the
thresholds and housekeeping: with the ID of the slot, or waiting for its ID under a fresh read window, an
entry that still waited staying blank. With 24 entries it is an overrun: the latch is set, nothing is
appended, and unless doubt is set already doubt is set and MAG_OVERRUN joins the own stop reasons. The
trailing edge clears the filtered level and does nothing else (R55, R105, R106, R107, R108, R109, R110,
R120). The model's choices: MAG_OVERRUN is journalled before OWN_STOP (log entry 11); an overrun leaves a
waiting entry and its read window as they are (56); an edge that blanks a waiting head judges housekeeping
once, after the append (57). -/
def Obligations.FeedEdgesAppendParts : Prop :=
  ∀ s : State, s.mem.station = .running → s.role = some .case ∨ s.role = some .jacket →
    let list := s.parts.magazine
    let appended (e : PartEntry) (blanked : List PartEntry) (rd : Reader) (port : PortUnit) : Prop :=
      ∃ u t, exec (.feedEyeLeadingEdge .named) s = .next t ∧ housekept u t ∧
        u.parts = { s.parts with
          magazine := blanked ++ [e], arrival := s.parts.arrival + 1
          high := u.parts.high, low := u.parts.low } ∧
        (u.parts.high = true ↔ 23 - list.length ≤ s.highOffset) ∧
        (u.parts.low = true ↔ list.length + 1 ≤ s.lowOffset) ∧
        (u.parts.high = true → s.parts.high = false → u.port.latches[(6 : Fin 17)] = true) ∧
        u.port.journal = port.journal ∧
        u = { s with zt.eyes.fourth := true, parts := u.parts, rd := rd, port := u.port }
    exec (.feedEyeLeadingEdge .opposite) s = .next { s with zt.eyes.fourth := false } ∧
    (24 ≤ list.length →
      let overrun : State := { s with
        zt.eyes.fourth := true
        port := (s.port.setLatch .magOverrun).append .magOverrun 0 .none }
      (s.parts.doubt = true → exec (.feedEyeLeadingEdge .named) s = .next overrun) ∧
      (s.parts.doubt = false → s.bus.txq.length < 16 → exec (.feedEyeLeadingEdge .named) s = .next
        (withReasons { s.mem.ownStop with magOverrun := true }
          { overrun with parts.doubt := true }))) ∧
    (list.length < 24 →
      (∀ i, s.rd.slot = some i → appended ⟨s.parts.arrival, some i.key, formatNamed s i.format, false⟩
        list { s.rd with slot := none } s.port) ∧
      (s.rd.slot = none → (∀ e ∈ list, e.waiting = false) →
        appended ⟨s.parts.arrival, none, none, true⟩ list
          { s.rd with window := some s.readWindowMs } s.port) ∧
      (∀ e, s.rd.slot = none → list.find? PartEntry.waiting = some e →
        appended ⟨s.parts.arrival, none, none, true⟩ (list.map fun e => { e with waiting := false })
          { s.rd with window := some s.readWindowMs }
          (s.port.append .blankEntry 0 (.value e.arrival.toNat))))

/-- The cycle-done input, turning on, ends the cycle in progress: a casing or jacketing cycle ends its
record's work; a skip of matching is followed by the next skip or by the cycle on the head, a record that
has become REJECT being passed and one overtaken by doubt getting no part; a cycle without a record, a
housekeeping skip or one whose record was purged, lets a WAITING record be matched or housekeeping be
judged. With no cycle it is LATE_DONE. Turning off it changes its filtered level alone. A cycle that
reaches its timeout adds CYCLE_FAULT: a record's casing or jacketing marks it CYCLE_FAULT; a skip sets
doubt, and its record gets no part; without a record the wait ends (R113, R115, R117, R118, R119, R120,
R121, R122, R123, R167). A timeout is taken whenever its cycle runs; OWN_STOP is journalled before it; a
timeout without a record, and every SKIP_TIMEOUT, has tag 0; a REJECT record overtaken by doubt is passed
there: the model's choices (log entries 5, 11, 20 and 43). -/
def Obligations.CyclesEndOrTimeOut : Prop :=
  ∀ s : State, s.mem.station = .running → s.role = some .case ∨ s.role = some .jacket →
    let done (p : State → Prop) : Prop := ∃ t, exec (.cycleDone .named) s = .next t ∧ p t
    let ended : State := { s with work.cycle := none, work.doneOn := true }
    let timedOut (k : JournalKind) (tag : W16) (arrival : Byte) : State :=
      let v := withReasons { s.mem.ownStop with cycleFault := true } { s with work.cycle := none }
      { v with port := v.port.append k tag (.value arrival.toNat) }
    exec (.cycleDone .opposite) s = .next { s with work.doneOn := false } ∧
    (s.work.cycle = none → exec (.cycleDone .named) s = .next { s with
      work.doneOn := true, port := s.port.append .lateDone 0 .none }) ∧
    (∀ arrival left, s.work.cycle = some ⟨.marry, true, arrival, left⟩ →
      done (partsEnd id ended) ∧
      (s.bus.txq.length < 16 → ∃ t, exec .cycleTimeout s = .next t ∧
        partsEnd (ZoneRecord.onBook (BookRecord.addMark .cycleFault s.own))
          (timedOut .cycleTimeout s.workTag arrival) t)) ∧
    (∀ z arrival left, s.work.cycle = some ⟨.skip, true, arrival, left⟩ → s.atWork? = some z →
      (z.book.verdict = .reject → done (partsEnd id ended)) ∧
      (z.book.verdict = .good → s.parts.doubt = true → done (noPartGiven ended)) ∧
      (∀ e rest, z.book.verdict = .good → s.parts.doubt = false → s.parts.magazine = e :: rest →
        (s.work.matchIndex = some 1 → done (marryBegins e rest ended)) ∧
        (∀ k, s.work.matchIndex = some (k + 2) → done (skipBegins true e rest
          { ended with work.matchIndex := some (k + 1) }))) ∧
      (s.bus.txq.length < 16 → ∃ t, exec .skipTimeout s = .next t ∧
        noPartGiven { timedOut .skipTimeout 0 arrival with parts.doubt := true } t)) ∧
    (∀ kind arrival left, s.work.cycle = some ⟨kind, false, arrival, left⟩ →
      done (waitEnds ended) ∧
      (s.bus.txq.length < 16 →
        (kind = .marry → ∃ t, exec .cycleTimeout s = .next t ∧
          waitEnds (timedOut .cycleTimeout 0 arrival) t) ∧
        (kind = .skip → ∃ t, exec .skipTimeout s = .next t ∧
          waitEnds { timedOut .skipTimeout 0 arrival with parts.doubt := true } t)))

/-! ### Heat shares -/

/-- The end of the hold-off lets a pending book claim be queued, else a keep-warm claim where it is due. A
claim that waits to its limit is withdrawn as starved, journalled CLAIM_STARVED with the class of its own
entry in the wait list and its use, and a book that waited is marked HEAT_STARVED and its
work done. Keep-warm that falls due asks for a share where the press is idle with work on its way. A bar
that goes cold withdraws a keep-warm claim still queued or waiting. A burst that ends warms the bar and
releases the share (R134, R136, R137, R140, R141, R142, R143, R156). An expiry is taken whenever its timer
runs, KEEPWARM_DUE moving the warm timer forward to half of K, and CLAIM_STARVED has the tag of the record at
work for use BOOK, else 0: the model's choices (log entries 5 and 20). -/
def Obligations.HeatTimersAct : Prop :=
  ∀ s : State, s.mem.station = .running → s.bus.txq.length < 16 →
    let give (n : Notice) : List TxEntry := s.bus.txq ++ [⟨n, 0⟩]
    (s.heat.holdOff ≠ none → ∃ t, exec .holdOffExpiry s = .next t ∧
      holdOffEnds { s with heat.holdOff := none } t) ∧
    (s.heat.claim = .waiting → s.heat.claimWait ≠ none → ∃ t,
      exec .claimWaitLimit s = .next t ∧
      t.heat = { s.heat with claim := .returning, use := .none, claimWait := none } ∧
      t.bus.txq = give .withdraw ∧ t.port.latches[(11 : Fin 17)] = true ∧
      (∃ cls, t.port.journal.getLast? = some ⟨.claimStarved,
          if s.heat.use = .book then s.workTag else 0, .pair cls s.heat.use.code, s.port.stamp⟩ ∧
        ∀ e, s.heat.waits.find? (fun e => e.position == s.own) = some e →
          cls = if e.cls = .book then 1 else 0) ∧
      (s.heat.use ≠ .book → t.zt = s.zt ∧ t.work = s.work) ∧
      (s.heat.use = .book → t.work.press = .idle ∧
        t.zt.zone = mapFirst (fun y => y.phase == .atWork)
          (fun y => { y with book := y.book.addMark .heatStarved s.own, phase := .worked })
          s.zt.zone)) ∧
    (∀ left, s.heat.warmLeft = some left → s.heat.due = false →
      let asks := s.role = some .press ∧ s.heat.claim = .none ∧ s.heat.holdOff = none ∧
        s.heat.warm = true ∧ (s.zt.zone ≠ [] ∨ s.zt.incoming ≠ []) ∧ s.work.press = .idle ∧
        s.mem.guardOpen = false
      let due : State := { s with
        heat.due := true, heat.warmLeft := some (min left (s.keepwarmMs / 2)) }
      (asks → exec .keepwarmDue s = .next { due with
        bus.txq := give (.claim .keepwarm), heat.claim := .queued, heat.use := .keepwarm }) ∧
      (¬ asks → exec .keepwarmDue s = .next due)) ∧
    (s.heat.warmLeft ≠ none →
      let cold : State := { s with
        heat.warm := false, heat.warmLeft := none, heat.due := false }
      let lapses := (s.heat.claim = .queued ∨ s.heat.claim = .waiting) ∧ s.heat.use = .keepwarm
      (lapses → exec .warmTimerExpiry s = .next { cold with
        bus.txq := give .withdraw, heat.claim := .returning, heat.use := .none
        heat.claimWait := none, port := s.port.append .keepwarmLapsed 0 .none }) ∧
      (¬ lapses → exec .warmTimerExpiry s = .next cold)) ∧
    (s.heat.burst ≠ none → s.heat.claim = .holding → exec .burstEnd s = .next { s with
      bus.txq := give .release
      heat := { s.heat with
        burst := none, warm := true, warmLeft := some s.keepwarmMs, due := false
        claim := .returning, use := .none } })

/-! ### The press -/

/-- A book with a portion of heat credited: heat done grows by it, at most to 6000, and pressed is set once
heat done reaches the format's heat time (R7). -/
def heated (s : State) (portion : Nat) (b : BookRecord) : BookRecord :=
  let done := min 6000 (b.heatDone + portion)
  { b with
    heatDone := done
    pressed := b.pressed ||
      (match b.format with
       | some f => decide ((s.params.formats[f]).heat.toNat ≤ done)
       | none => false) }

/-- The Heat Share Unit once a heat phase has ended while HOLDING: the bar is WARM with its warm timer
running anew, and the claim RETURNING (R140, R152, R159). -/
def heatEnded (s : State) : HeatShare :=
  { s.heat with
    warm := true, warmLeft := some s.keepwarmMs, due := false, claim := .returning, use := .none }

/-- A heat phase that reaches its length credits its book portion, journals PRESSED or HEAT_PARTIAL, warms
the bar, queues RELEASE, and is followed by the set phase, or by work done where the set time is 0. The
end of the set phase opens the clamp with work done, and keep-warm is judged. A suspension that reaches max
suspend marks the book DWELL_BROKEN and leaves the press SUSPENDED (R7, R140, R141, R152, R153, R154, R161). An
expiry is taken whenever its timer runs, the model's choice (log entry 5). -/
def Obligations.PressPhasesEnd : Prop :=
  ∀ (s : State) (z : ZoneRecord), s.mem.station = .running → s.atWork? = some z →
    let onWork (f : ZoneRecord → ZoneRecord) : List ZoneRecord :=
      mapFirst (fun y => y.phase == .atWork) f s.zt.zone
    (∀ h, s.work.heat = some h → s.work.press = .heat → s.heat.claim = .holding →
      s.bus.txq.length < 16 →
      let b := heated s h.book z.book
      let setMs := match z.book.format with
        | some f => (s.params.formats[f]).setTime.toNat * 100
        | none => 0
      let u : State := { s with
        heat := heatEnded s
        bus.txq := s.bus.txq ++ [⟨.release, 0⟩]
        port := if b.pressed then s.port.append .pressed b.tag .none
          else s.port.append .heatPartial b.tag (.value b.heatDone) }
      (setMs ≠ 0 → exec .heatPhaseEnd s = .next { u with
        zt.zone := onWork fun y => { y with book := heated s h.book y.book }
        work := { s.work with
          press := .set, heat := none, setLeft := some setMs, suspendLeft := none
          book := { s.work.book with credited := s.work.book.credited + h.book } } }) ∧
      (setMs = 0 → exec .heatPhaseEnd s = .next { u with
        zt.zone := onWork fun y => { y with book := heated s h.book y.book, phase := .worked }
        work := pressIdle s.work })) ∧
    (s.work.press = .set → ∃ t, exec .setEnd s = .next t ∧ warmthAsked { s with
      zt.zone := onWork workDone, work := pressIdle s.work } t) ∧
    (s.work.press = .suspended → s.work.suspendLeft ≠ none →
      exec .maxSuspendExpiry s = .next { s with
        zt.zone := onWork fun y => { y with book := y.book.addMark .dwellBroken s.own }
        work := { s.work with
          suspendLeft := none, book := { s.work.book with suspendReached := true } }
        port := (s.port.setLatch .dwellBroken).append .dwellBroken z.book.tag .none })

/-- The guard opening adds GUARD to the own stop reasons, with STOP queued; closing, it removes it, with STOP
or GO queued for what is left. In HEAT an opening credits the portion delivered, releases the share and
suspends the book, with the suspend timer at max suspend; in a burst it ends the burst; elsewhere the
press work goes on. A closing in IDLE has keep-warm judged. One in SUSPENDED ends the work of a book that is
REJECT or past max suspend, with keep-warm judged as the press work returns to IDLE, sends one that is pressed
or has no remainder to SET, and has any other ask for a share again, held pending while the claim is RETURNING
or the hold-off runs; a book whose grant was returned asks again (R96, R97, R99, R141, R142, R151, R159, R160,
R161, R162). HEAT_RESUMED is journalled for SET and for WAIT_SHARE, and not for a book that is not resumed, the
model's reading (log entry 21); OWN_STOP comes before it, and STOP or GO before a CLAIM (log entry 11). -/
def Obligations.GuardStopsAndSuspends : Prop :=
  ∀ s : State, s.mem.station = .running → s.bus.txq.length ≤ 13 →
    let moved (open_ : Bool) : State :=
      let r : Reasons := { s.mem.ownStop with guard := open_ }
      let kept := s.mem.ownStop.guard = open_
      { s with
        mem := { s.mem with guardOpen := open_, ownStop := r }
        bus.txq := s.bus.txq ++ (if kept then [] else [⟨if r.isEmpty then .go else .stop r, 0⟩])
        port := if kept then s.port else s.port.append .ownStop 0 (.value r.toNat) }
    let opened := moved true
    let shut := moved false
    let onWork (f : ZoneRecord → ZoneRecord) : List ZoneRecord :=
      mapFirst (fun y => y.phase == .atWork) f s.zt.zone
    let released : List TxEntry := opened.bus.txq ++ [⟨.release, 0⟩]
    (s.work.heat = none → s.heat.burst = none → exec .guardOpens s = .next opened) ∧
    (∀ h, s.work.heat = some h → s.work.press = .heat → s.heat.claim = .holding → ∃ t,
      exec .guardOpens s = .next t ∧ t.work.press = .suspended ∧ t.work.heat = none ∧
      t.work.book.credited = s.work.book.credited + h.delivered ∧
      (s.maxSuspendMs ≠ 0 → t.work.suspendLeft = some s.maxSuspendMs ∧
        t.zt.zone = onWork fun y => { y with book := heated s h.delivered y.book }) ∧
      (s.maxSuspendMs = 0 → t.work.suspendLeft = none ∧ t.work.book.suspendReached = true ∧
        t.zt.zone = onWork fun y => { y with
          book := (heated s h.delivered y.book).addMark .dwellBroken s.own }) ∧
      ⟨.heatSuspended, s.workTag, .value h.delivered, s.port.stamp⟩ ∈ t.port.journal ∧
      t = { opened with
        bus.txq := released, heat := heatEnded s, work := t.work, port := t.port
        zt.zone := t.zt.zone }) ∧
    (s.work.heat = none → s.heat.burst ≠ none → s.heat.claim = .holding →
      exec .guardOpens s = .next { opened with
        bus.txq := released, heat := { heatEnded s with burst := none } }) ∧
    (s.work.press = .heat ∨ s.work.press = .set ∨
        (s.work.press = .waitShare ∧ s.work.book.returned = false) →
      exec .guardCloses s = .next shut) ∧
    (s.work.press = .idle → ∃ t, exec .guardCloses s = .next t ∧ warmthAsked shut t) ∧
    (∀ z, s.work.press = .suspended → s.atWork? = some z →
      let remainder := s.work.book.allowance - s.work.book.credited
      let past := s.work.book.suspendReached = true ∨ z.book.verdict = .reject
      let setMs := match z.book.format with
        | some f => (s.params.formats[f]).setTime.toNat * 100
        | none => 0
      let ended (u : State) : Prop := ∃ t, exec .guardCloses s = .next t ∧ warmthAsked { u with
        zt.zone := onWork workDone, work := pressIdle s.work } t
      let resumed : State := { shut with
        port := shut.port.append .heatResumed z.book.tag (.value remainder) }
      (past → ended shut) ∧
      (¬ past → z.book.pressed = true ∨ remainder = 0 →
        (setMs ≠ 0 → exec .guardCloses s = .next { resumed with
          work := { s.work with press := .set, suspendLeft := none, setLeft := some setMs } }) ∧
        (setMs = 0 → ended resumed)) ∧
      (¬ past → z.book.pressed = false → remainder ≠ 0 →
        let waits : State := { resumed with
          work := { s.work with
            press := .waitShare, suspendLeft := none
            book := { s.work.book with resumed := true } } }
        (s.heat.claim = .none → s.heat.holdOff = none → exec .guardCloses s = .next { waits with
          bus.txq := shut.bus.txq ++ [⟨.claim .book, 0⟩]
          heat.claim := .queued, heat.use := .book }) ∧
        (s.heat.claim = .returning ∨ (s.heat.claim = .none ∧ s.heat.holdOff ≠ none) →
          exec .guardCloses s = .next { waits with heat.pendingBook := true }))) ∧
    (s.work.press = .waitShare → s.work.book.returned = true →
      let waits : State := { shut with
        work := { s.work with book := { s.work.book with returned := false } } }
      (s.heat.claim = .none → s.heat.holdOff = none → exec .guardCloses s = .next { waits with
        bus.txq := shut.bus.txq ++ [⟨.claim .book, 0⟩]
        heat.claim := .queued, heat.use := .book }) ∧
      (s.heat.claim = .returning ∨ (s.heat.claim = .none ∧ s.heat.holdOff ≠ none) →
        exec .guardCloses s = .next { waits with heat.pendingBook := true }))

/-! ### HALTED -/

/-- The commands that a HALTED station takes: the resets and the transactions of the station port. -/
def takenHalted : Instr → Bool
  | .powerOn _ | .resetPin _ => true
  | c => isTransaction c

/-- Each output but admit (DrainHoldsUntilReset) and attention (WriteEnablesSetsAttention) is on exactly while
its rule's conditions hold: conveyor run (R101), exit hold (R73, R79), work stop (R69), cycle start (R116 to
R118, R167), skip (R115, R119), clamp (R149), heater (R139, R164), feeder stop (R110) and divert (R172). -/
def outputsByRule (s : State) : Prop :=
  let running := s.mem.station = .running
  let peerOpen := ∃ p, peerIs s p ∧ (s.mem.members[p]).status = .running ∧
    (s.mem.members[p]).foreign = false ∧ s.zt.roomHeard[p] = true
  let cycleOf (k : CycleKind) := ∃ y, s.work.cycle = some y ∧ y.kind = k
  (s.heater = true ↔ running ∧ s.own ∈ s.heat.holders ∧
    (s.work.heat ≠ none ∨ s.heat.burst ≠ none)) ∧
  (s.conveyorRun = true ↔ running ∧ (∀ p : Pos, s.mem.stopSet[p] = Reasons.empty) ∧
    s.mem.ownStop = Reasons.empty) ∧
  (s.exitHold = true ↔ running ∧ ((s.params.straps.isEnd = false ∧ ¬ peerOpen) ∨
    ∃ z rest, s.zt.zone = z :: rest ∧ z.divertFailed = true)) ∧
  (s.workStop = true ↔ running ∧ ∃ z ∈ s.zt.zone, z.phase = .atWork) ∧
  (s.cycleStart = true ↔ running ∧ cycleOf .marry) ∧
  (s.skipOutput = true ↔ running ∧ cycleOf .skip) ∧
  (s.clamp = true ↔ running ∧ s.work.press ≠ .idle) ∧
  (s.feederStop = true ↔ running ∧ (s.role = some .case ∨ s.role = some .jacket) ∧
    s.parts.high = true) ∧
  (s.divertOutput = true ↔ running ∧ s.work.divert ≠ none)

/-- Every output is on exactly while its rule's conditions hold. A HALTED station stands still: every output
is off but attention, under the laws of the bus every bus, reader, eye, encoder, guard and timer event
leaves it as it stands, and every port command leaves everything but the port as it stands (R46, R75, R102).
That conveyor run comes on again where own reasons are emptied before their STOP has been applied is the
model's reading (log entry 52). -/
def Obligations.HaltedStationsStandStill : Prop :=
  (∀ s : State, outputsByRule s) ∧
  ∀ (c : Instr) (s : State), s.mem.station = .halted → s.busLawful →
    outputsOff s ∧
    (takenHalted c = false → exec c s = .next s) ∧
    (takenHalted c = true → (∀ straps, c ≠ .powerOn straps ∧ c ≠ .resetPin straps ∧
        c ≠ .reset straps) →
      ∃ p, exec c s = .next { s with port := p })

/-! ### Invariants -/

/-- Every step keeps every list within its capacity: 16 notices, 8 and 4 records, 24 parts, 16 voids, 32
journal entries (R28, R57, R105, R111, R190). -/
def Obligations.StepsKeepCapacities : Prop :=
  ∀ s t : State, s.withinCapacity → step s = .next t → t.withinCapacity

/-- Every step keeps the laws of the bus: attached exactly in JOINING and RUNNING, the queue empty and no
frame in progress otherwise, the frame sent one of a queued notice, and no queued notice failed eight
times (R17, R20, R25, R28, R41, R46). -/
def Obligations.StepsKeepBusLaws : Prop :=
  ∀ s t : State, s.busLawful → step s = .next t → t.busLawful

/-- Every step keeps the laws of the states in which the station does not work: in CONFIG everything but the
configuration, the tag counter, draining and the port stands as reset left it; in JOINING no record has
entered and nothing works; and outside CONFIG the configuration is one that JOIN accepts (R38, R39, R41,
R42, R53, R75). -/
def Obligations.StepsKeepQuietStates : Prop :=
  ∀ s t : State, s.quietLawful → step s = .next t → t.quietLawful

/-- Every step keeps the laws of book records in the zone list, the incoming list and the transmit queue
(marks, verdict, identity, open time, heat done, marriages), with the order of the zone list, the
role's own work and the locked configuration that they rest on (R1, R3, R5, R6, R57, R59, R166). -/
def Obligations.StepsKeepRecordLaws : Prop :=
  ∀ s t : State, s.recordsLawful → step s = .next t → t.recordsLawful

/-- The machine after reset obeys every law that the steps keep. -/
def Obligations.ResetObeysTheLaws : Prop :=
  State.reset.withinCapacity ∧ State.reset.busLawful ∧ State.reset.quietLawful ∧
    State.reset.recordsLawful ∧ State.reset.sharesLawful

end
end

