-- ==== Sys2Proof/Laws/State.lean ====
section
/-! SUPPORT. What the smallest updates leave: one lemma for each field of the state and each named update,
true by unfolding, so that no later proof opens a record update. -/

namespace Sys2Proof.Machine

@[simp] theorem latch_params (l : Latch) (s : State) : (s.latch l).params = s.params := rfl
@[simp] theorem latch_bus (l : Latch) (s : State) : (s.latch l).bus = s.bus := rfl
@[simp] theorem latch_mem (l : Latch) (s : State) : (s.latch l).mem = s.mem := rfl
@[simp] theorem latch_zt (l : Latch) (s : State) : (s.latch l).zt = s.zt := rfl
@[simp] theorem latch_rd (l : Latch) (s : State) : (s.latch l).rd = s.rd := rfl
@[simp] theorem latch_parts (l : Latch) (s : State) : (s.latch l).parts = s.parts := rfl
@[simp] theorem latch_work (l : Latch) (s : State) : (s.latch l).work = s.work := rfl
@[simp] theorem latch_heat (l : Latch) (s : State) : (s.latch l).heat = s.heat := rfl
@[simp] theorem latch_freeCount (l : Latch) (s : State) : (s.latch l).freeCount = s.freeCount := rfl
@[simp] theorem latch_pending (l : Latch) (s : State) : (s.latch l).pending = s.pending := rfl

@[simp] theorem log_params (k : JournalKind) (t : W16) (d : Detail) (s : State) : (s.log k t d).params = s.params := rfl
@[simp] theorem log_bus (k : JournalKind) (t : W16) (d : Detail) (s : State) : (s.log k t d).bus = s.bus := rfl
@[simp] theorem log_mem (k : JournalKind) (t : W16) (d : Detail) (s : State) : (s.log k t d).mem = s.mem := rfl
@[simp] theorem log_zt (k : JournalKind) (t : W16) (d : Detail) (s : State) : (s.log k t d).zt = s.zt := rfl
@[simp] theorem log_rd (k : JournalKind) (t : W16) (d : Detail) (s : State) : (s.log k t d).rd = s.rd := rfl
@[simp] theorem log_parts (k : JournalKind) (t : W16) (d : Detail) (s : State) : (s.log k t d).parts = s.parts := rfl
@[simp] theorem log_work (k : JournalKind) (t : W16) (d : Detail) (s : State) : (s.log k t d).work = s.work := rfl
@[simp] theorem log_heat (k : JournalKind) (t : W16) (d : Detail) (s : State) : (s.log k t d).heat = s.heat := rfl
@[simp] theorem log_freeCount (k : JournalKind) (t : W16) (d : Detail) (s : State) : (s.log k t d).freeCount = s.freeCount := rfl
@[simp] theorem log_pending (k : JournalKind) (t : W16) (d : Detail) (s : State) : (s.log k t d).pending = s.pending := rfl

@[simp] theorem answer_params (r : PortResult) (s : State) : (s.answer r).params = s.params := rfl
@[simp] theorem answer_bus (r : PortResult) (s : State) : (s.answer r).bus = s.bus := rfl
@[simp] theorem answer_mem (r : PortResult) (s : State) : (s.answer r).mem = s.mem := rfl
@[simp] theorem answer_zt (r : PortResult) (s : State) : (s.answer r).zt = s.zt := rfl
@[simp] theorem answer_rd (r : PortResult) (s : State) : (s.answer r).rd = s.rd := rfl
@[simp] theorem answer_parts (r : PortResult) (s : State) : (s.answer r).parts = s.parts := rfl
@[simp] theorem answer_work (r : PortResult) (s : State) : (s.answer r).work = s.work := rfl
@[simp] theorem answer_heat (r : PortResult) (s : State) : (s.answer r).heat = s.heat := rfl
@[simp] theorem answer_freeCount (r : PortResult) (s : State) : (s.answer r).freeCount = s.freeCount := rfl
@[simp] theorem answer_pending (r : PortResult) (s : State) : (s.answer r).pending = s.pending := rfl

@[simp] theorem openPort_params (s : State) : s.openPort.params = s.params := rfl
@[simp] theorem openPort_bus (s : State) : s.openPort.bus = s.bus := rfl
@[simp] theorem openPort_mem (s : State) : s.openPort.mem = s.mem := rfl
@[simp] theorem openPort_zt (s : State) : s.openPort.zt = s.zt := rfl
@[simp] theorem openPort_rd (s : State) : s.openPort.rd = s.rd := rfl
@[simp] theorem openPort_parts (s : State) : s.openPort.parts = s.parts := rfl
@[simp] theorem openPort_work (s : State) : s.openPort.work = s.work := rfl
@[simp] theorem openPort_heat (s : State) : s.openPort.heat = s.heat := rfl
@[simp] theorem openPort_freeCount (s : State) : s.openPort.freeCount = s.freeCount := rfl
@[simp] theorem openPort_pending (s : State) : s.openPort.pending = s.pending := rfl

@[simp] theorem releasePort_params (s : State) : s.releasePort.params = s.params := rfl
@[simp] theorem releasePort_bus (s : State) : s.releasePort.bus = s.bus := rfl
@[simp] theorem releasePort_mem (s : State) : s.releasePort.mem = s.mem := rfl
@[simp] theorem releasePort_zt (s : State) : s.releasePort.zt = s.zt := rfl
@[simp] theorem releasePort_rd (s : State) : s.releasePort.rd = s.rd := rfl
@[simp] theorem releasePort_parts (s : State) : s.releasePort.parts = s.parts := rfl
@[simp] theorem releasePort_work (s : State) : s.releasePort.work = s.work := rfl
@[simp] theorem releasePort_heat (s : State) : s.releasePort.heat = s.heat := rfl
@[simp] theorem releasePort_freeCount (s : State) : s.releasePort.freeCount = s.freeCount := rfl
@[simp] theorem releasePort_pending (s : State) : s.releasePort.pending = s.pending := rfl

@[simp] theorem beginRead_params (c : PortRead) (s : State) : (s.beginRead c).params = s.params := rfl
@[simp] theorem beginRead_bus (c : PortRead) (s : State) : (s.beginRead c).bus = s.bus := rfl
@[simp] theorem beginRead_mem (c : PortRead) (s : State) : (s.beginRead c).mem = s.mem := rfl
@[simp] theorem beginRead_zt (c : PortRead) (s : State) : (s.beginRead c).zt = s.zt := rfl
@[simp] theorem beginRead_rd (c : PortRead) (s : State) : (s.beginRead c).rd = s.rd := rfl
@[simp] theorem beginRead_parts (c : PortRead) (s : State) : (s.beginRead c).parts = s.parts := rfl
@[simp] theorem beginRead_work (c : PortRead) (s : State) : (s.beginRead c).work = s.work := rfl
@[simp] theorem beginRead_heat (c : PortRead) (s : State) : (s.beginRead c).heat = s.heat := rfl
@[simp] theorem beginRead_freeCount (c : PortRead) (s : State) : (s.beginRead c).freeCount = s.freeCount := rfl
@[simp] theorem beginRead_pending (c : PortRead) (s : State) : (s.beginRead c).pending = s.pending := rfl

@[simp] theorem clockRead_params (n : Nat) (s : State) : (s.clockRead n).params = s.params := rfl
@[simp] theorem clockRead_bus (n : Nat) (s : State) : (s.clockRead n).bus = s.bus := rfl
@[simp] theorem clockRead_mem (n : Nat) (s : State) : (s.clockRead n).mem = s.mem := rfl
@[simp] theorem clockRead_zt (n : Nat) (s : State) : (s.clockRead n).zt = s.zt := rfl
@[simp] theorem clockRead_rd (n : Nat) (s : State) : (s.clockRead n).rd = s.rd := rfl
@[simp] theorem clockRead_parts (n : Nat) (s : State) : (s.clockRead n).parts = s.parts := rfl
@[simp] theorem clockRead_work (n : Nat) (s : State) : (s.clockRead n).work = s.work := rfl
@[simp] theorem clockRead_heat (n : Nat) (s : State) : (s.clockRead n).heat = s.heat := rfl
@[simp] theorem clockRead_freeCount (n : Nat) (s : State) : (s.clockRead n).freeCount = s.freeCount := rfl
@[simp] theorem clockRead_pending (n : Nat) (s : State) : (s.clockRead n).pending = s.pending := rfl

@[simp] theorem endFrame_params (d : Drive) (s : State) : (s.endFrame d).params = s.params := rfl
@[simp] theorem endFrame_mem (d : Drive) (s : State) : (s.endFrame d).mem = s.mem := rfl
@[simp] theorem endFrame_zt (d : Drive) (s : State) : (s.endFrame d).zt = s.zt := rfl
@[simp] theorem endFrame_rd (d : Drive) (s : State) : (s.endFrame d).rd = s.rd := rfl
@[simp] theorem endFrame_parts (d : Drive) (s : State) : (s.endFrame d).parts = s.parts := rfl
@[simp] theorem endFrame_work (d : Drive) (s : State) : (s.endFrame d).work = s.work := rfl
@[simp] theorem endFrame_heat (d : Drive) (s : State) : (s.endFrame d).heat = s.heat := rfl
@[simp] theorem endFrame_port (d : Drive) (s : State) : (s.endFrame d).port = s.port := rfl
@[simp] theorem endFrame_freeCount (d : Drive) (s : State) : (s.endFrame d).freeCount = s.freeCount := rfl
@[simp] theorem endFrame_pending (d : Drive) (s : State) : (s.endFrame d).pending = s.pending := rfl
@[simp] theorem endFrame_attached (d : Drive) (s : State) : (s.endFrame d).bus.attached = s.bus.attached := rfl
@[simp] theorem endFrame_txq (d : Drive) (s : State) : (s.endFrame d).bus.txq = s.bus.txq := rfl

@[simp] theorem fourthClear_params (s : State) : s.fourthClear.params = s.params := rfl
@[simp] theorem fourthClear_bus (s : State) : s.fourthClear.bus = s.bus := rfl
@[simp] theorem fourthClear_mem (s : State) : s.fourthClear.mem = s.mem := rfl
@[simp] theorem fourthClear_rd (s : State) : s.fourthClear.rd = s.rd := rfl
@[simp] theorem fourthClear_parts (s : State) : s.fourthClear.parts = s.parts := rfl
@[simp] theorem fourthClear_work (s : State) : s.fourthClear.work = s.work := rfl
@[simp] theorem fourthClear_heat (s : State) : s.fourthClear.heat = s.heat := rfl
@[simp] theorem fourthClear_port (s : State) : s.fourthClear.port = s.port := rfl
@[simp] theorem fourthClear_freeCount (s : State) : s.fourthClear.freeCount = s.freeCount := rfl
@[simp] theorem fourthClear_pending (s : State) : s.fourthClear.pending = s.pending := rfl

end Sys2Proof.Machine
end

