-- ==== Sys2Proof/Laws/Ops.lean ====
section
/-! SUPPORT. One lemma for each shared operation that says what it can do, and what it leaves: the halt,
queueing, going on, stop reasons, room, departures, marks, lists. -/

namespace Sys2Proof.Machine

/-! ### The halt (R46) -/

@[simp] theorem halt_params (r : HaltReason) (s : State) : (s.halt r).params = s.params := by
  unfold State.halt; split <;> rfl
@[simp] theorem halt_zt (r : HaltReason) (s : State) : (s.halt r).zt = s.zt := by
  unfold State.halt; split <;> rfl
@[simp] theorem halt_work (r : HaltReason) (s : State) : (s.halt r).work = s.work := by
  unfold State.halt; split <;> rfl
@[simp] theorem halt_heat (r : HaltReason) (s : State) : (s.halt r).heat = s.heat := by
  unfold State.halt; split <;> rfl
@[simp] theorem halt_freeCount (r : HaltReason) (s : State) : (s.halt r).freeCount = s.freeCount := by
  unfold State.halt; split <;> rfl
@[simp] theorem halt_pending (r : HaltReason) (s : State) : (s.halt r).pending = s.pending := by
  unfold State.halt; split <;> rfl
@[simp] theorem halt_mem_resetCause (r : HaltReason) (s : State) :
    (s.halt r).mem.resetCause = s.mem.resetCause := by
  unfold State.halt; split <;> rfl
@[simp] theorem halt_mem_members (r : HaltReason) (s : State) :
    (s.halt r).mem.members = s.mem.members := by
  unfold State.halt; split <;> rfl
@[simp] theorem halt_mem_silence (r : HaltReason) (s : State) :
    (s.halt r).mem.silence = s.mem.silence := by
  unfold State.halt; split <;> rfl
@[simp] theorem halt_mem_joinWindow (r : HaltReason) (s : State) :
    (s.halt r).mem.joinWindow = s.mem.joinWindow := by
  unfold State.halt; split <;> rfl
@[simp] theorem halt_mem_stopAdopted (r : HaltReason) (s : State) :
    (s.halt r).mem.stopAdopted = s.mem.stopAdopted := by
  unfold State.halt; split <;> rfl
@[simp] theorem halt_mem_shareAdopted (r : HaltReason) (s : State) :
    (s.halt r).mem.shareAdopted = s.mem.shareAdopted := by
  unfold State.halt; split <;> rfl
@[simp] theorem halt_mem_beaconTimer (r : HaltReason) (s : State) :
    (s.halt r).mem.beaconTimer = s.mem.beaconTimer := by
  unfold State.halt; split <;> rfl
@[simp] theorem halt_mem_stopSet (r : HaltReason) (s : State) :
    (s.halt r).mem.stopSet = s.mem.stopSet := by
  unfold State.halt; split <;> rfl
@[simp] theorem halt_mem_ownStop (r : HaltReason) (s : State) :
    (s.halt r).mem.ownStop = s.mem.ownStop := by
  unfold State.halt; split <;> rfl
@[simp] theorem halt_mem_guardOpen (r : HaltReason) (s : State) :
    (s.halt r).mem.guardOpen = s.mem.guardOpen := by
  unfold State.halt; split <;> rfl

/-- A halt from JOINING or RUNNING enters HALTED. -/
theorem halt_station_of_active (r : HaltReason) (s : State) (h : s.isActive) :
    (s.halt r).mem.station = .halted := by
  unfold State.halt; rw [if_pos h]; rfl

/-- A halt outside JOINING and RUNNING has no effect. -/
theorem halt_of_not_active (r : HaltReason) (s : State) (h : ¬ s.isActive) : s.halt r = s := by
  unfold State.halt; rw [if_neg h]

/-! ### Queueing (R28, R30) -/

/-- Outside JOINING and RUNNING nothing is queued. -/
theorem queue_of_not_active (n : Notice) (s : State) (h : ¬ s.isActive) : s.queue n = s := by
  unfold State.queue; rw [if_neg h]

/-- With a place free the notice joins the tail of the queue. -/
theorem queue_of_room (n : Notice) (s : State) (h : s.isActive)
    (hr : s.bus.txq.length < Config.txqCap) :
    s.queue n = { s with bus.txq := s.bus.txq ++ [⟨n, 0⟩] } := by
  unfold State.queue; rw [if_pos h, if_pos hr]

/-- With the queue full the station halts. -/
theorem queue_of_full (n : Notice) (s : State) (h : s.isActive)
    (hr : ¬ s.bus.txq.length < Config.txqCap) :
    s.queue n = (s.log .txqFull 0 (.value n.kind.detailCode)).halt .txqFull := by
  unfold State.queue; rw [if_pos h, if_neg hr]

/-- Everything that queueing can do, in one lemma. -/
theorem queue_cases (n : Notice) (s : State) :
    s.queue n = s ∨ s.queue n = { s with bus.txq := s.bus.txq ++ [⟨n, 0⟩] } ∨
      (s.isActive ∧
        s.queue n = (s.log .txqFull 0 (.value n.kind.detailCode)).halt .txqFull) := by
  by_cases h : s.isActive
  · by_cases hr : s.bus.txq.length < Config.txqCap
    · exact Or.inr (Or.inl (queue_of_room n s h hr))
    · exact Or.inr (Or.inr ⟨h, queue_of_full n s h hr⟩)
  · exact Or.inl (queue_of_not_active n s h)

@[simp] theorem queue_params (n : Notice) (s : State) : (s.queue n).params = s.params := by
  rcases queue_cases n s with h | h | ⟨_, h⟩ <;> simp [h]
@[simp] theorem queue_zt (n : Notice) (s : State) : (s.queue n).zt = s.zt := by
  rcases queue_cases n s with h | h | ⟨_, h⟩ <;> simp [h]
@[simp] theorem queue_work (n : Notice) (s : State) : (s.queue n).work = s.work := by
  rcases queue_cases n s with h | h | ⟨_, h⟩ <;> simp [h]
@[simp] theorem queue_heat (n : Notice) (s : State) : (s.queue n).heat = s.heat := by
  rcases queue_cases n s with h | h | ⟨_, h⟩ <;> simp [h]
@[simp] theorem queue_freeCount (n : Notice) (s : State) : (s.queue n).freeCount = s.freeCount := by
  rcases queue_cases n s with h | h | ⟨_, h⟩ <;> simp [h]
@[simp] theorem queue_pending (n : Notice) (s : State) : (s.queue n).pending = s.pending := by
  rcases queue_cases n s with h | h | ⟨_, h⟩ <;> simp [h]
@[simp] theorem queue_mem_resetCause (n : Notice) (s : State) :
    (s.queue n).mem.resetCause = s.mem.resetCause := by
  rcases queue_cases n s with h | h | ⟨_, h⟩ <;> simp [h]
@[simp] theorem queue_mem_members (n : Notice) (s : State) :
    (s.queue n).mem.members = s.mem.members := by
  rcases queue_cases n s with h | h | ⟨_, h⟩ <;> simp [h]
@[simp] theorem queue_mem_silence (n : Notice) (s : State) :
    (s.queue n).mem.silence = s.mem.silence := by
  rcases queue_cases n s with h | h | ⟨_, h⟩ <;> simp [h]
@[simp] theorem queue_mem_joinWindow (n : Notice) (s : State) :
    (s.queue n).mem.joinWindow = s.mem.joinWindow := by
  rcases queue_cases n s with h | h | ⟨_, h⟩ <;> simp [h]
@[simp] theorem queue_mem_stopAdopted (n : Notice) (s : State) :
    (s.queue n).mem.stopAdopted = s.mem.stopAdopted := by
  rcases queue_cases n s with h | h | ⟨_, h⟩ <;> simp [h]
@[simp] theorem queue_mem_shareAdopted (n : Notice) (s : State) :
    (s.queue n).mem.shareAdopted = s.mem.shareAdopted := by
  rcases queue_cases n s with h | h | ⟨_, h⟩ <;> simp [h]
@[simp] theorem queue_mem_beaconTimer (n : Notice) (s : State) :
    (s.queue n).mem.beaconTimer = s.mem.beaconTimer := by
  rcases queue_cases n s with h | h | ⟨_, h⟩ <;> simp [h]
@[simp] theorem queue_mem_stopSet (n : Notice) (s : State) :
    (s.queue n).mem.stopSet = s.mem.stopSet := by
  rcases queue_cases n s with h | h | ⟨_, h⟩ <;> simp [h]
@[simp] theorem queue_mem_ownStop (n : Notice) (s : State) :
    (s.queue n).mem.ownStop = s.mem.ownStop := by
  rcases queue_cases n s with h | h | ⟨_, h⟩ <;> simp [h]
@[simp] theorem queue_mem_guardOpen (n : Notice) (s : State) :
    (s.queue n).mem.guardOpen = s.mem.guardOpen := by
  rcases queue_cases n s with h | h | ⟨_, h⟩ <;> simp [h]

/-! ### Going on unless halted -/

/-- A halted station does not go on. -/
theorem andThen_of_halted (s : State) (f : State → State) (h : s.mem.station = .halted) :
    s.andThen f = s := by
  unfold State.andThen; rw [if_pos h]

/-- A station that has not halted goes on. -/
theorem andThen_of_not_halted (s : State) (f : State → State) (h : s.mem.station ≠ .halted) :
    s.andThen f = f s := by
  unfold State.andThen; rw [if_neg h]

/-- What holds of a state, and of what `f` makes of it, holds after going on. -/
theorem andThen_ind {P : State → Prop} (s : State) (f : State → State) (hs : P s)
    (hf : P (f s)) : P (s.andThen f) := by
  unfold State.andThen; split <;> assumption

/-- What holds of every such state after `f` holds after going on, given it holds before. -/
theorem andThen_keeps {P : State → Prop} (s : State) (f : State → State) (hs : P s)
    (hf : ∀ t, P t → P (f t)) : P (s.andThen f) :=
  andThen_ind s f hs (hf s hs)

/-- An event taken under a condition keeps what it keeps when it is taken. -/
theorem when_keeps {P : State → Prop} (s : State) (p : Prop) [Decidable p] (f : State → State)
    (hs : P s) (hf : p → P (f s)) : P (s.when p f) := by
  unfold State.when; split
  · exact hf ‹_›
  · exact hs

/-! ### The own stop reasons and the stop set -/

/-- A set of own reasons that does not change leaves the station as it was (R97). -/
theorem setOwnStop_same (r : Reasons) (s : State) (h : r = s.mem.ownStop) :
    s.setOwnStop r = s := by
  unfold State.setOwnStop; rw [if_neg]; exact fun hc => hc.2 h

@[simp] theorem setOwnStop_params (r : Reasons) (s : State) :
    (s.setOwnStop r).params = s.params := by
  unfold State.setOwnStop; split <;> simp
@[simp] theorem setOwnStop_zt (r : Reasons) (s : State) :
    (s.setOwnStop r).zt = s.zt := by
  unfold State.setOwnStop; split <;> simp
@[simp] theorem setOwnStop_work (r : Reasons) (s : State) :
    (s.setOwnStop r).work = s.work := by
  unfold State.setOwnStop; split <;> simp
@[simp] theorem setOwnStop_heat (r : Reasons) (s : State) :
    (s.setOwnStop r).heat = s.heat := by
  unfold State.setOwnStop; split <;> simp
@[simp] theorem setOwnStop_freeCount (r : Reasons) (s : State) :
    (s.setOwnStop r).freeCount = s.freeCount := by
  unfold State.setOwnStop; split <;> simp
@[simp] theorem setOwnStop_pending (r : Reasons) (s : State) :
    (s.setOwnStop r).pending = s.pending := by
  unfold State.setOwnStop; split <;> simp
@[simp] theorem setStops_params (t : Vector Reasons 16) (p : Pos) (s : State) :
    (s.setStops t p).params = s.params := by
  unfold State.setStops; dsimp only; split <;> [skip; split] <;> rfl
@[simp] theorem setStops_bus (t : Vector Reasons 16) (p : Pos) (s : State) :
    (s.setStops t p).bus = s.bus := by
  unfold State.setStops; dsimp only; split <;> [skip; split] <;> rfl
@[simp] theorem setStops_zt (t : Vector Reasons 16) (p : Pos) (s : State) :
    (s.setStops t p).zt = s.zt := by
  unfold State.setStops; dsimp only; split <;> [skip; split] <;> rfl
@[simp] theorem setStops_rd (t : Vector Reasons 16) (p : Pos) (s : State) :
    (s.setStops t p).rd = s.rd := by
  unfold State.setStops; dsimp only; split <;> [skip; split] <;> rfl
@[simp] theorem setStops_parts (t : Vector Reasons 16) (p : Pos) (s : State) :
    (s.setStops t p).parts = s.parts := by
  unfold State.setStops; dsimp only; split <;> [skip; split] <;> rfl
@[simp] theorem setStops_work (t : Vector Reasons 16) (p : Pos) (s : State) :
    (s.setStops t p).work = s.work := by
  unfold State.setStops; dsimp only; split <;> [skip; split] <;> rfl
@[simp] theorem setStops_heat (t : Vector Reasons 16) (p : Pos) (s : State) :
    (s.setStops t p).heat = s.heat := by
  unfold State.setStops; dsimp only; split <;> [skip; split] <;> rfl
@[simp] theorem setStops_freeCount (t : Vector Reasons 16) (p : Pos) (s : State) :
    (s.setStops t p).freeCount = s.freeCount := by
  unfold State.setStops; dsimp only; split <;> [skip; split] <;> rfl
@[simp] theorem setStops_pending (t : Vector Reasons 16) (p : Pos) (s : State) :
    (s.setStops t p).pending = s.pending := by
  unfold State.setStops; dsimp only; split <;> [skip; split] <;> rfl

/-- The stop set put in place, whatever becomes of the line's standing. -/
@[simp] theorem setStops_mem (t : Vector Reasons 16) (p : Pos) (s : State) :
    (s.setStops t p).mem = { s.mem with stopSet := t } := by
  unfold State.setStops; dsimp only; split <;> [skip; split] <;> rfl

/-! ### Room and departures -/

@[simp] theorem judgeRoom_params (s : State) : s.judgeRoom.params = s.params := by
  unfold State.judgeRoom
  dsimp only
  split
  · rfl
  · split
    · unfold State.andThen; split <;> simp
    · rfl
@[simp] theorem judgeRoom_work (s : State) : s.judgeRoom.work = s.work := by
  unfold State.judgeRoom
  dsimp only
  split
  · rfl
  · split
    · unfold State.andThen; split <;> simp
    · rfl
@[simp] theorem judgeRoom_heat (s : State) : s.judgeRoom.heat = s.heat := by
  unfold State.judgeRoom
  dsimp only
  split
  · rfl
  · split
    · unfold State.andThen; split <;> simp
    · rfl
@[simp] theorem judgeRoom_freeCount (s : State) : s.judgeRoom.freeCount = s.freeCount := by
  unfold State.judgeRoom
  dsimp only
  split
  · rfl
  · split
    · unfold State.andThen; split <;> simp
    · rfl
@[simp] theorem judgeRoom_pending (s : State) : s.judgeRoom.pending = s.pending := by
  unfold State.judgeRoom
  dsimp only
  split
  · rfl
  · split
    · unfold State.andThen; split <;> simp
    · rfl
@[simp] theorem judgeRoom_zt_zone (s : State) : s.judgeRoom.zt.zone = s.zt.zone := by
  unfold State.judgeRoom
  dsimp only
  split
  · rfl
  · split
    · unfold State.andThen; split <;> simp
    · rfl
@[simp] theorem judgeRoom_zt_incoming (s : State) : s.judgeRoom.zt.incoming = s.zt.incoming := by
  unfold State.judgeRoom
  dsimp only
  split
  · rfl
  · split
    · unfold State.andThen; split <;> simp
    · rfl
@[simp] theorem judgeRoom_zt_lengthCount (s : State) : s.judgeRoom.zt.lengthCount = s.zt.lengthCount := by
  unfold State.judgeRoom
  dsimp only
  split
  · rfl
  · split
    · unfold State.andThen; split <;> simp
    · rfl
@[simp] theorem judgeRoom_zt_eyes (s : State) : s.judgeRoom.zt.eyes = s.zt.eyes := by
  unfold State.judgeRoom
  dsimp only
  split
  · rfl
  · split
    · unfold State.andThen; split <;> simp
    · rfl
@[simp] theorem judgeRoom_zt_roomHeard (s : State) : s.judgeRoom.zt.roomHeard = s.zt.roomHeard := by
  unfold State.judgeRoom
  dsimp only
  split
  · rfl
  · split
    · unfold State.andThen; split <;> simp
    · rfl
@[simp] theorem judgeRoom_zt_tagCounter (s : State) : s.judgeRoom.zt.tagCounter = s.zt.tagCounter := by
  unfold State.judgeRoom
  dsimp only
  split
  · rfl
  · split
    · unfold State.andThen; split <;> simp
    · rfl
@[simp] theorem judgeRoom_zt_draining (s : State) : s.judgeRoom.zt.draining = s.zt.draining := by
  unfold State.judgeRoom
  dsimp only
  split
  · rfl
  · split
    · unfold State.andThen; split <;> simp
    · rfl
@[simp] theorem voidFor_params (r : BookRecord) (s : State) :
    (s.voidFor r).params = s.params := by
  unfold State.voidFor; split <;> [rfl; split] <;> simp
@[simp] theorem voidFor_zt (r : BookRecord) (s : State) :
    (s.voidFor r).zt = s.zt := by
  unfold State.voidFor; split <;> [rfl; split] <;> simp
@[simp] theorem voidFor_work (r : BookRecord) (s : State) :
    (s.voidFor r).work = s.work := by
  unfold State.voidFor; split <;> [rfl; split] <;> simp
@[simp] theorem voidFor_heat (r : BookRecord) (s : State) :
    (s.voidFor r).heat = s.heat := by
  unfold State.voidFor; split <;> [rfl; split] <;> simp
@[simp] theorem voidFor_freeCount (r : BookRecord) (s : State) :
    (s.voidFor r).freeCount = s.freeCount := by
  unfold State.voidFor; split <;> [rfl; split] <;> simp
@[simp] theorem voidFor_pending (r : BookRecord) (s : State) :
    (s.voidFor r).pending = s.pending := by
  unfold State.voidFor; split <;> [rfl; split] <;> simp

/-! ### The station port -/

/-- Everything a read can do lies in the port (R182 to R185, R189, R191). -/
theorem read_spec (c : PortRead) (bits : Nat) (released : Bool) (s : State) :
    s.read c bits released = { s with port := (s.read c bits released).port } := by
  unfold State.read
  dsimp only
  split <;> split <;> rfl

/-- Once select is released no transaction is open (R179). -/
theorem releasePort_free (s : State) :
    s.releasePort.port.watch = none ∧ s.releasePort.port.reading = none := ⟨rfl, rfl⟩

/-! ### Frames and edges -/

/-- An image goes out in eight bits for each byte (R179). -/
@[simp] theorem imageBits_length (image : List Byte) : (imageBits image).length = 8 * image.length := by
  induction image with
  | nil => rfl
  | cons b rest ih =>
    have h : imageBits (b :: rest) = byteBits b ++ imageBits rest := rfl
    simp only [h, List.length_append, ih, List.length_cons, byteBits]
    simp only [List.length_nil]
    omega

/-- The count of recessive bit times stays within the quiet gap (R20). -/
theorem quietAfter_le (n : Nat) (b : LineBus) : b.quietAfter n ≤ Config.quietGap :=
  Nat.min_le_left _ _

/-- A detached controller, and one that took no start, receives nothing (R17, R20). -/
theorem receive_of_no_frame (p : Pos) (k : NoticeKind) (l : List Byte) (f : State → State) (s : State)
    (h : ¬ s.bus.attached ∨ s.bus.frame = .none) : s.receive p k l f = s := by
  unfold State.receive; rw [if_pos h]

/-- What holds once a frame has ended, in a halt for it, and after its notice's effect with the notice gone
from the queue or not, holds after a good frame has completed (R26). -/
theorem receive_keeps {P : State → Prop} (p : Pos) (k : NoticeKind) (l : List Byte)
    (f : State → State) (s : State) (hs : P s) (he : P (s.endFrame .none))
    (hh : P ((s.endFrame .none).halt .positionClash)) (hf : P (f (s.endFrame .none)))
    (hq : ∀ place, P (f { s.endFrame .none with bus.txq := s.bus.txq.eraseIdx place })) :
    P (s.receive p k l f) := by
  unfold State.receive
  dsimp only
  split
  · exact hs
  · split
    · exact hq _
    · split
      · exact hh
      · split
        · exact he
        · exact hf

/-- An edge does what its named or its opposite edge does in RUNNING, and nothing in another state (R54). -/
theorem onEdge_keeps {P : State → Prop} (e : InputEdge) (f g : State → State) (s : State) (hs : P s)
    (hf : P (f s)) (hg : P (g s)) : P (s.onEdge e f g) := by
  unfold State.onEdge
  split
  · cases e <;> assumption
  · exact hs

/-! ### Marks and lists -/

/-- Everything a mark does to a record (R5). -/
theorem addMark_spec (k : MarkKind) (p : Pos) (b : BookRecord) :
    (b.addMark k p).verdict = .reject ∧ (b.addMark k p).openTime = none ∧
      (b.addMark k p).marks =
        (if b.marks.length < Config.markCap then b.marks ++ [⟨k, p⟩] else b.marks) :=
  ⟨rfl, rfl, rfl⟩

/-- Changing the first item that is picked keeps the length of a list. -/
@[simp] theorem mapFirst_length {α : Type} (p : α → Bool) (f : α → α) (l : List α) :
    (mapFirst p f l).length = l.length := by
  induction l with
  | nil => rfl
  | cons x xs ih => unfold mapFirst; split <;> simp [ih]

/-- An item after changing the first that is picked is an old item or the change of one. -/
theorem mem_mapFirst {α : Type} (p : α → Bool) (f : α → α) (l : List α) (y : α)
    (h : y ∈ mapFirst p f l) : y ∈ l ∨ ∃ x ∈ l, p x = true ∧ y = f x := by
  induction l with
  | nil => exact Or.inl h
  | cons x xs ih =>
    unfold mapFirst at h
    by_cases hx : p x = true
    · rw [if_pos hx] at h
      rcases List.mem_cons.mp h with rfl | h
      · exact Or.inr ⟨x, List.mem_cons_self, hx, rfl⟩
      · exact Or.inl (List.mem_cons_of_mem _ h)
    · rw [if_neg hx] at h
      rcases List.mem_cons.mp h with rfl | h
      · exact Or.inl List.mem_cons_self
      · rcases ih h with h | ⟨z, hz, hp, e⟩
        · exact Or.inl (List.mem_cons_of_mem _ h)
        · exact Or.inr ⟨z, List.mem_cons_of_mem _ hz, hp, e⟩

/-- An entry appended to the journal keeps it within its capacity (R190). -/
theorem append_journal_length (k : JournalKind) (t : W16) (d : Detail) (p : PortUnit)
    (h : p.journal.length ≤ Config.journalCap) :
    (p.append k t d).journal.length ≤ Config.journalCap := by
  unfold PortUnit.append
  dsimp only
  split
  · simp only [List.length_append, List.length_singleton]; omega
  · simp only [List.length_append, List.length_drop, List.length_singleton]
    simp only [Config.journalCap] at *; omega

/-! ### The wait list (R127, R128) -/

/-- An entry is BOOK where it is not KEEPWARM. -/
theorem isKeepwarm_eq_not_book (w : WaitEntry) : w.isKeepwarm = !(w.cls == .book) := by
  unfold WaitEntry.isKeepwarm; cases w.cls <;> rfl

/-- Where the list holds no KEEPWARM entry the claim goes to its head. -/
theorem afterKeepwarm_of_books (e : WaitEntry) (waits : List WaitEntry)
    (h : waits.any WaitEntry.isKeepwarm = false) : afterKeepwarm e waits = e :: waits := by
  cases waits with
  | nil => rfl
  | cons w rest => unfold afterKeepwarm; rw [h]; rfl

/-- The claim stands before the BOOK entries with which the list ends, and behind all others: those end with
the last KEEPWARM entry. -/
theorem afterKeepwarm_append (e : WaitEntry) (l books : List WaitEntry)
    (hl : ∀ w ∈ l.getLast?, w.isKeepwarm = true)
    (hb : books.any WaitEntry.isKeepwarm = false) :
    afterKeepwarm e (l ++ books) = l ++ e :: books := by
  induction l with
  | nil => exact afterKeepwarm_of_books e books hb
  | cons w rest ih =>
    have last : ((w :: rest).getLast (List.cons_ne_nil w rest)).isKeepwarm = true :=
      hl _ (List.getLast?_eq_getLast_of_ne_nil (List.cons_ne_nil w rest) ▸ rfl)
    have any : ((w :: rest) ++ books).any WaitEntry.isKeepwarm = true :=
      List.any_eq_true.mpr
        ⟨_, List.mem_append_left _ (List.getLast_mem (List.cons_ne_nil w rest)), last⟩
    have tail : ∀ x ∈ rest.getLast?, x.isKeepwarm = true := by
      intro x hx
      cases rest with
      | nil => cases hx
      | cons y ys => exact hl x (by simpa [List.getLast?_cons_cons] using hx)
    show (if ((w :: rest) ++ books).any WaitEntry.isKeepwarm then w :: afterKeepwarm e (rest ++ books)
      else e :: w :: (rest ++ books)) = _
    rw [if_pos any, ih tail]
    rfl

/-- The entries placed are the entries that were there and the claim. -/
theorem afterKeepwarm_perm (e : WaitEntry) (waits : List WaitEntry) :
    (afterKeepwarm e waits).Perm (e :: waits) := by
  induction waits with
  | nil => exact List.Perm.refl _
  | cons w rest ih =>
    unfold afterKeepwarm
    split
    · exact (ih.cons w).trans (List.Perm.swap e w rest)
    · exact List.Perm.refl _

/-- A KEEPWARM claim placed keeps KEEPWARM entries before BOOK entries. -/
theorem afterKeepwarm_ordered (e : WaitEntry) (waits : List WaitEntry) (he : e.cls = .keepwarm)
    (h : waits.Pairwise waitOrder) : (afterKeepwarm e waits).Pairwise waitOrder := by
  induction waits with
  | nil => exact List.pairwise_singleton _ _
  | cons w rest ih =>
    obtain ⟨hw, hr⟩ := List.pairwise_cons.mp h
    unfold afterKeepwarm
    split
    case isFalse => exact List.pairwise_cons.mpr ⟨fun _ _ => Or.inl he, h⟩
    case isTrue any =>
      have first : w.cls = .keepwarm := by
        obtain ⟨x, hx, hk⟩ := List.any_eq_true.mp any
        have hk : x.cls = .keepwarm := by simpa [WaitEntry.isKeepwarm] using hk
        rcases List.mem_cons.mp hx with rfl | hx
        · exact hk
        · rcases hw x hx with h | h
          · exact h
          · rw [hk] at h; cases h
      exact List.pairwise_cons.mpr ⟨fun _ _ => Or.inl first, ih hr⟩

/-- The place of a KEEPWARM claim, read from the end of the list: before the BOOK entries that end it (R128). -/
theorem afterKeepwarm_eq (e : WaitEntry) (waits : List WaitEntry) :
    afterKeepwarm e waits =
      (waits.reverse.dropWhile (fun w => w.cls == .book)).reverse ++ e ::
        (waits.reverse.takeWhile (fun w => w.cls == .book)).reverse := by
  have split : waits = (waits.reverse.dropWhile (fun w => w.cls == .book)).reverse ++
      (waits.reverse.takeWhile (fun w => w.cls == .book)).reverse := by
    rw [← List.reverse_append, List.takeWhile_append_dropWhile, List.reverse_reverse]
  conv => lhs; rw [split]
  refine afterKeepwarm_append e _ _ ?_ ?_
  · intro w hw
    rw [List.getLast?_reverse] at hw
    rw [isKeepwarm_eq_not_book]
    have := List.head?_dropWhile_not (fun w : WaitEntry => w.cls == .book) waits.reverse
    rw [Option.mem_def] at hw
    rw [hw] at this
    simpa using this
  · rw [List.any_eq_false]
    intro w hw
    have hb := List.mem_takeWhile_imp (List.mem_reverse.mp hw)
    rw [isKeepwarm_eq_not_book, hb]
    decide

/-! ### Open time in the transmit queue (R81, R91) -/

/-- A HANDOVER's open time is over in the queue exactly when all 100 ms of its last ds have run. -/
theorem handover_lastStepOver_iff (target : Pos) (b : BookRecord) (step : Nat) :
    (Notice.handover target b step).lastStepOver = true ↔ b.openTime = some 1 ∧ 100 ≤ step := by
  simp [Notice.lastStepOver]

/-- Where it is over, taking the expiry leaves 0, which a start bit then carries. -/
theorem endOpenTime_of_over {target : Pos} {b : BookRecord} {step failures : Nat}
    (h : (Notice.handover target b step).lastStepOver = true) :
    TxEntry.endOpenTime ⟨.handover target b step, failures⟩ =
      ⟨.handover target (b.withOpenTime (some 0)) 0, failures⟩ := by
  simp only [TxEntry.endOpenTime, h, if_true]

/-- A notice whose open time is not over is left as it is. -/
theorem endOpenTime_of_not_over {e : TxEntry} (h : e.notice.lastStepOver = false) :
    e.endOpenTime = e := by
  unfold TxEntry.endOpenTime
  split <;> simp [h]

/-- Before it is taken, a start bit carries the last whole ds. -/
theorem openTimeShown_of_over {b : BookRecord} {step : Nat} (h : b.openTime = some 1)
    (hs : 100 ≤ step) : openTimeShown b.openTime step = some 1 := by
  simp [openTimeShown, h, hs]

end Sys2Proof.Machine
end

