-- ==== Sys2Proof/Tests/Slice0.lean ====
section
/-! SUPPORT. Small tests: ill-formed commands are refused by the checks of WellFormed; single steps and
images worked out by hand from the spec; and, for every statement with hypotheses, states and
operands that meet them, clause by clause (`test_hyp_<statement>`). -/

namespace Sys2Proof.Tests

open Sys2Proof Sys2Proof.Machine

/-! ### Helpers -/

/-- A format table with entry 0 valid: 200 mm, tolerance 4 mm, heat time 50 ds, set time 5 ds. -/
def formats : Vector FormatEntry 16 := (Vector.replicate 16 FormatEntry.atReset).set 0 ⟨1, 200, 4, 50, 5⟩

/-- A station at position 3 with a role code in a station state, a peer's frame being received while it is
attached; not the END station. -/
def station (role : BitVec 3) (m : StationState) : State :=
  { State.reset with
    params := { ParamStore.atReset ⟨role, 2, false⟩ with formats := formats }
    bus := { LineBus.atReset with
      attached := m == .joining || m == .running
      frame := if m == .joining || m == .running then .receiving else .none }
    mem := { Membership.atReset .powerOn with station := m } }

/-- A GOOD record with an identity. -/
def book : BookRecord :=
  { BookRecord.created 5 with key := some 7, copy := some 1, format := some 0 }

/-- A record cased at position 2. -/
def cased : BookRecord := { book with caseMarriage := some ⟨1, 9⟩, openTime := some 40 }

/-- A record that lacks nothing. -/
def finished : BookRecord :=
  { cased with openTime := none, heatDone := 50, pressed := true, jacketMarriage := some ⟨3, 4⟩ }

/-- A REJECT record. -/
def rejected : BookRecord := book.addMark .noId 0

/-- A record in the zone list. -/
def zrec (b : BookRecord) (p : Phase) : ZoneRecord := ZoneRecord.fresh b p false

/-- A part for `book`, and one for another title. -/
def part : PartEntry := ⟨1, some 7, some 0, false⟩
/-- A part of another title. -/
def other : PartEntry := ⟨2, some 8, some 0, false⟩

/-- The state with a zone list. -/
def withZone (s : State) (l : List ZoneRecord) : State := { s with zt.zone := l }

/-- The state with the record of a peer's frame ended: what `takesFrame` begins with. -/
def peerFrame (s : State) (p : Pos) : State :=
  { s.frameEnded with bus.txq := s.bus.txq.filter fun e => e.notice != .absent p }

/-- The state in which this station sends a frame of the first notice of its queue. -/
def sends (s : State) (n : Notice) (k : NoticeKind) (payload : List Byte) : State :=
  { s with bus.txq := [⟨n, 0⟩], bus.frame := .sending 0 k payload }

/-- The state once that frame has ended. -/
def sentFrame (s : State) : State := { s.frameEnded with bus.txq := [] }

/-- A peer's frame is taken by a RUNNING station. -/
theorem test_takes_peer (s : State) (p : Pos) (k : NoticeKind) (l : List Byte)
    (h : s.bus.attached = true) (hp : p ≠ s.own) (hr : s.mem.station = .running)
    (hf : s.bus.frame ≠ .none := by decide) :
    s.takesFrame p k l (peerFrame s p) :=
  ⟨h, hf, Or.inl ⟨hp, fun hj => by rw [hr] at hj; exact absurd hj.1 (by decide), rfl⟩⟩

/-- The station's own frame is taken. -/
theorem test_takes_own (s : State) (n : Notice) (k : NoticeKind) (l : List Byte)
    (h : s.bus.attached = true) :
    (sends s n k l).takesFrame s.own k l (sentFrame (sends s n k l)) :=
  ⟨h, Frame.noConfusion, Or.inr ⟨0, ⟨rfl, rfl⟩, rfl⟩⟩

/-! ### Well-formedness -/

theorem test_wf_unbroken_transaction : (Instr.transactionFrame [0x01] 0).wellFormed = false := by decide
theorem test_wf_broken_transaction :
    (Instr.transactionFrame [0x10, 1, 0] 0).wellFormed = true ∧
    (Instr.transactionFrame [0x01] 3).wellFormed = true ∧
    (Instr.transactionFrame [0x99] 0).wellFormed = true ∧
    (Instr.transactionFrame [] 0).wellFormed = false ∧
    (Instr.transactionFrame [0x01] 8).wellFormed = false := by decide
theorem test_wf_beacon_length :
    (Instr.beacon 0 (List.replicate 14 0)).wellFormed = false ∧
    (Instr.beacon 0 (List.replicate 31 0)).wellFormed = false ∧
    (Instr.beacon 0 (List.replicate 13 0)).wellFormed = true := by decide
theorem test_wf_id_frame :
    (Instr.idFrame []).wellFormed = false ∧
    (Instr.idFrame (List.replicate 9 ⟨0, true⟩)).wellFormed = false ∧
    (Instr.idFrame (List.replicate 8 ⟨0, true⟩)).wellFormed = true := by decide
theorem test_wf_open_time_place :
    (Instr.openTimeExpiry (.zone 8)).wellFormed = false ∧
    (Instr.openTimeExpiry (.incoming 4)).wellFormed = false ∧
    (Instr.openTimeExpiry (.zone 7)).wellFormed = true := by decide

/-! ### Values worked out by hand -/

/-- The check of no bits is all ones, and one 0 bit shifts and divides once (chapter 12). -/
theorem test_check_value : checkOf [] = 0xFFFF ∧ checkOf [false] = 0xEFDF ∧ checkOf [true] = 0xFFFE := by
  decide
/-- After four equal bits one of the opposite level is inserted, and the run begins again (R19). -/
theorem test_inserted_bits :
    insertBits [true, true, true, true, true] = [true, true, true, true, false, true] ∧
    (removeBits [true, true, true, true, true]).2 = true := by decide
/-- A GO has no payload and 33 bits from start through check (R18, R19). -/
theorem test_go_frame_bits : (frameBits 0 2 1 []).length = 33 := by decide +kernel
/-- A frame sent is read back as the command it stands for (R23). -/
theorem test_go_frame_read_back :
    (judge (insertBits (frameBits 0 2 1 []))).command = some (.goNotice 2) := by decide +kernel
/-- A frame with one level turned is not read as a good frame (R23). -/
theorem test_turned_bit_is_found :
    (judge ((insertBits (frameBits 0 2 1 [])).set 8 true)).command ≠ some (.goNotice 2) := by
  decide +kernel
/-- The record image of a cased book, byte by byte (12.1). -/
theorem test_record_image :
    recordImage cased (some 40) =
      [0, 5, 0, 0, 7, 0, 1, 0, 2, 9, 0, 40, 0, 0, 0, 0, 0, 0xFF, 0xFF, 0, 0, 0, 0, 0] := by decide
/-- A stop set snapshot puts position 1 in the top five bits (12.1). -/
theorem test_stop_set_image :
    stopSetBytes ((Vector.replicate 16 Reasons.empty).set 0 ⟨true, false, false, false, false⟩) =
      [0x08, 0, 0, 0, 0, 0, 0, 0, 0, 0] := by decide
/-- The latch image puts latch 16 in the lowest bit of its first byte (12.2). -/
theorem test_latch_image :
    latchImage ((Vector.replicate 17 false).set 16 true) = [1, 0, 0] := by decide
/-- Open time is shown with a step in progress counted as spent (R81). -/
theorem test_open_time_shown :
    openTimeShown (some 40) 0 = some 40 ∧ openTimeShown (some 40) 1 = some 39 ∧
      openTimeShown (some 1) 99 = some 0 ∧ openTimeShown (some 1) 100 = some 1 := by decide
/-- A countdown step of 100 ms takes one ds (R89). -/
theorem test_open_time_runs :
    runOpenTime (some 3) 98 = (some 3, 99) ∧ runOpenTime (some 3) 99 = (some 2, 0) ∧
      runOpenTime (some 0) 5 = (some 0, 5) ∧ runQueuedTime (some 1) 99 = (some 1, 100) ∧
      runQueuedTime (some 2) 99 = (some 1, 0) := by decide
/-- A start bit and the expiry together: taken first, the start bit carries the last whole ds, the expiry 0
(R91). -/
theorem test_expiry_with_start_bit :
    let e : TxEntry := ⟨.handover 3 { BookRecord.created 5 with openTime := some 1 } 100, 0⟩
    let s : State := { State.reset with bus.txq := [e] }
    e.notice.lastStepOver = true ∧
      s.payload e.notice = 3 :: recordImage (BookRecord.created 5) (some 1) ∧
      s.endQueuedTimes.bus.txq.map (fun x => s.payload x.notice) =
        [3 :: recordImage (BookRecord.created 5) (some 0)] := by decide +kernel
/-- Lengths pass from nominal minus to nominal plus tolerance, both included (R66). -/
theorem test_length_passes :
    lengthPasses ⟨1, 200, 4, 50, 5⟩ 196 = true ∧ lengthPasses ⟨1, 200, 4, 50, 5⟩ 204 = true ∧
      lengthPasses ⟨1, 200, 4, 50, 5⟩ 195 = false ∧ lengthPasses ⟨1, 200, 4, 50, 5⟩ 205 = false := by
  decide
/-- Tags go from 65535 to 1 (R14). -/
theorem test_next_tag : nextTag 0xFFFF = 1 ∧ nextTag 1 = 2 := by decide
/-- A configuration straight from reset fails at the role strap, then at the format table (R38). -/
theorem test_offending_items :
    State.reset.params.offendingItem = some 0 ∧
    (ParamStore.atReset ⟨1, 0, false⟩).offendingItem = some 16 ∧
    (station 1 .config).params.offendingItem = none := by decide +kernel
/-- The status image has 81 bytes, and its first says CONFIG (12.2). -/
theorem test_status_image :
    State.reset.statusImage.length = 81 ∧ State.reset.statusImage[0]? = some 0 := by decide +kernel


/-! ### Transactions that stay open, and the quiet gap -/

/-- The state a command leaves. -/
def after (c : Instr) (s : State) : State :=
  match exec c s with
  | .next t => t
  | .fault _ | .refused _ => s

/-- A latch whose event occurs again between the snapshot and the last bit of READ LATCHES stays set; one
that was set only after the snapshot stays set too (R189). -/
theorem test_latches_set_meanwhile_stay :
    let s : State := { station 1 .running with port := PortUnit.atReset.setLatch .magLow |>.setLatch .openTime }
    let t := (after (.readLatches 10 false) s).latch .openTime |>.latch .matchFail
    let u := after (.readLatches 14 true) t
    u.port.latches[(5 : Fin 17)] = false ∧ u.port.latches[(9 : Fin 17)] = true ∧
      u.port.latches[(8 : Fin 17)] = true ∧ u.port.dataOut = imageBits [0, 2, 32] := by decide +kernel

/-- A head that a full journal discards while it is shifted out takes no other entry with it (R191). -/
theorem test_journal_wrap_meanwhile :
    let e : JournalEntry := ⟨.running, 0, .none, 0⟩
    let s : State := { station 1 .running with port.journal := List.replicate 32 e }
    let t := (after (.readJournal 30 false) s).log .lateDone 0 .none
    (after (.readJournal 34 true) t).port.journal.length = 32 ∧
      (after (.readJournal 64 true) s).port.journal.length = 31 := by decide +kernel

/-- WATCH drives its condition until it is released (R183). -/
theorem test_watch_is_released :
    let s := withZone (station 1 .running) [zrec book .atWork]
    (after (.watch 0 false) s).dataLevel = true ∧ (after (.watch 0 true) s).dataLevel = false := by
  decide +kernel

/-- The data output carries a read's image bit by bit, the most significant bit first (R179): of 0x02, 0x20 the
first ten bits have gone out, and the eleventh is next. -/
theorem test_bits_go_out_msb_first :
    let s : State := { station 1 .running with
      port.reading := some ⟨.status, [0x02, 0x20], 0, none, Vector.replicate 17 false, false⟩ }
    let t := after (.status 10 false) s
    t.port.dataOut = [false, false, false, false, false, false, true, false, false, false] ∧
      t.dataLevel = true ∧ s.dataLevel = false := by decide +kernel

/-- The bits of DRAIN, and of DRAIN with a bit more (R179). -/
theorem test_transaction_bits :
    transactionOfBits ⟨1, 2, false⟩ [false, false, false, true, true, false, false, false] =
      some .drain ∧
    transactionOfBits ⟨1, 2, false⟩ [false, false, false, true, true, false, false, false, true] =
      some (.transactionFrame [0x18] 1) := by decide

/-- A station that loses arbitration drives its levels up to its losing bit, and a mismatch before that bit is a
failure (R21, R22): GO of position 3 against GO of position 2. -/
theorem test_losing_sender :
    let s : State := { station 1 .running with bus.frame := .none, bus.txq := [⟨.go, 0⟩] }
    let t := after (.frameStart (some ⟨0, 1⟩)) s
    t.bus.frame = .losing 0 .go ⟨0, 1⟩ ∧
      t.drivenLevels = [false, false, false, false, true, false, true] ∧
      (after .readbackMismatch t).bus.txq = [⟨.go, 1⟩] ∧
      (after .readbackMismatch t).bus.drive = .abortRun ∧
      (after (.flaggedFrame .byOther) t).bus.txq = [⟨.go, 0⟩] := by decide +kernel

/-- A dominant level before the gap is no start, and sets the count back (R20). -/
theorem test_no_start_before_the_gap :
    let s : State := { station 1 .running with bus.frame := .none, bus.quiet := 0 }
    (after (.frameStart (some ⟨0, 4⟩) 10) s).bus = { s.bus with quiet := 0 } ∧
      (after (.frameStart (some ⟨0, 4⟩) 11) s).bus.frame = .receiving ∧
      (after (.frameStart none 10) s).bus.quiet = 10 := by decide

/-- A millisecond of the part's own clock leaves the count of recessive bit times as it is: within a frame that
was not taken at attachment a dominant level is still no start (R17, R20). -/
theorem test_clock_is_no_quiet_gap :
    let s : State := { station 1 .joining with bus.frame := .none, bus.quiet := 4 }
    s.passMs.bus.quiet = 4 ∧ (after (.frameStart (some ⟨0, 4⟩) 3) s.passMs).bus.frame = .none := by decide

/-- The bytes of WRITE PARAMETER spell it, and one byte short breaks the transaction (R179, 12.2). -/
theorem test_transaction_bytes :
    transactionCommand ⟨1, 2, false⟩ [0x10, 34, 1, 2] 0 = some (.writeParameter 34 0x0102) ∧
    transactionCommand ⟨1, 2, false⟩ [0x10, 34, 1] 0 =
      some (.transactionFrame [0x10, 34, 1] 0) := by decide

/-- An overrun with doubt already set leaves the stop reason as it was (R109). -/
theorem test_overrun_in_doubt :
    let s : State := { station 2 .running with
      parts.magazine := List.replicate 24 part, parts.doubt := true }
    (after (.feedEyeLeadingEdge .named) s).mem.ownStop = Reasons.empty ∧
      (after (.feedEyeLeadingEdge .named) s).bus.txq = [] := by decide

/-! ### What the hypotheses of the statements ask for is met -/

/-- A station whose STATUS stands open after three bits. -/
def reading : State :=
  { State.reset with
    port.reading := some ⟨.status, [1], 3, none, Vector.replicate 17 false, false⟩ }

theorem test_hyp_EmptyQueueRunsTheClock :
    (State.reset.pending = [] ∧ State.reset.dueNow = [] ∧ State.reset.mem.station = .config) ∧
    (let s := station 1 .running
     s.pending = [] ∧ s.dueNow = [] ∧ s.mem.station = .running) ∧
    (let s : State := { station 1 .running with mem.beaconTimer := some 0 }
     expiryDue s .beaconTimerExpiry ∧ s.dueNow = [.beaconTimerExpiry]) ∧
    (let b : BookRecord := { book with openTime := some 1 }
     let s : State := { station 1 .running with bus.txq := [⟨.handover 3 b 100, 0⟩] }
     s.dueNow = [] ∧ lastDsOver s.bus.txq[0].notice) :=
  ⟨by decide +kernel, by decide +kernel, ⟨⟨rfl, rfl⟩, by decide +kernel⟩, by decide +kernel,
    3, _, 100, rfl, rfl, by decide⟩

theorem test_hyp_StatusShiftsOutItsImage :
    readAt .status State.reset.statusImage none State.reset
      ⟨.status, State.reset.statusImage, 0, none, State.reset.port.latches, false⟩ ∧
    readAt .status [] none reading ⟨.status, [1], 3, none, Vector.replicate 17 false, false⟩ :=
  ⟨Or.inr ⟨⟨rfl, rfl⟩, rfl⟩, Or.inl ⟨rfl, rfl⟩⟩

theorem test_hyp_ReadsShowTheItemNamed :
    portFree (station 2 .running) ∧
    ((withZone (station 2 .running) [zrec book .entering]).zt.zone[(0 : Byte).toNat]? =
      some (zrec book .entering)) ∧
    ({ station 2 .running with zt.incoming := [⟨book, 3, 0⟩] } : State).zt.incoming[(0 : Byte).toNat]? =
      some ⟨book, 3, 0⟩ ∧
    State.reset.zt.zone.length ≤ (0 : Byte).toNat ∧ State.reset.zt.incoming.length ≤ (0 : Byte).toNat ∧
    ¬ ((station 3 .running).role = some .case ∨ (station 3 .running).role = some .jacket) ∧
    ((station 4 .running).role = some .jacket ∧ (23 : Byte).toNat < 24 ∧
      (List.replicate 24 part)[(23 : Byte).toNat]? = some part) ∧
    (24 ≤ (39 : Byte).toNat ∧ (39 : Byte).toNat < 40 ∧
      (List.replicate 16 (⟨7, none⟩ : VoidEntry))[(39 : Byte).toNat - 24]? = some ⟨7, none⟩) ∧
    ((station 2 .running).role = some .case ∧ ¬ (40 : Byte).toNat < 24 ∧ ¬ (40 : Byte).toNat < 40) := by
  unfold portFree; decide +kernel

theorem test_hyp_ReadLatchesClearsWhatItShowed :
    portFree State.reset ∧
    (let s : State := { State.reset with
        port.reading := some ⟨.latches, [0, 0, 1], 20, none, Vector.replicate 17 true, false⟩ }
     ∃ r, s.port.reading = some r ∧ r.command = .latches ∧ r.bits < 24 ∧ 24 ≤ r.bits + 4) :=
  ⟨⟨rfl, rfl⟩, _, rfl, by decide⟩

theorem test_hyp_ReadJournalRemovesWhatWentOut :
    portFree State.reset ∧
    (let s : State := { State.reset with
        port.reading := some ⟨.journal, [], 64, none, Vector.replicate 17 false, false⟩ }
     ∃ r, s.port.reading = some r ∧ r.command = .journal ∧ 0 < 64 ∧ r.bits % 64 + 64 ≤ 64) ∧
    ∃ t, exec (.readJournal 5 false) State.reset = .next t :=
  ⟨⟨rfl, rfl⟩, ⟨_, rfl, by decide⟩, _, rfl⟩

theorem test_hyp_WatchDrivesItsCondition :
    portFree State.reset ∧ ¬ 2 < (2 : Byte).toNat ∧ 2 < (3 : Byte).toNat ∧
    (let s : State := { State.reset with port.watch := some 2 }
     s.port.watch = some 2 ∧ s.port.reading = none) ∧
    (∃ r, reading.port.reading = some r ∧ r.command ≠ .journal) ∧
    (let s := after (.readJournal 3 false) (station 1 .running)
     ∃ r, s.port.reading = some r ∧ r.command = .journal ∧ r.bits % 64 ≠ 0) ∧
    (let s := after (.readJournal 0 false) ((station 1 .running).log .lateDone 0 .none)
     s.port.journal.length = 1 ∧ ∃ r, s.port.reading = some r ∧ r.command = .journal ∧ r.bits % 64 = 0) := by
  refine ⟨⟨rfl, rfl⟩, by decide, by decide, ⟨rfl, rfl⟩, ⟨_, rfl, by decide⟩, ?_, ?_⟩
  · exact ⟨_, rfl, rfl, by decide⟩
  · exact ⟨rfl, _, rfl, rfl, rfl⟩

theorem test_hyp_BrokenTransactionGivesFrame :
    ([] : List Byte).head? ≠ some 0x03 ∧ ([0x03] : List Byte).head? ≠ some 0x05 ∧
    ([0x05, 0] : List Byte) = 0x05 :: [0] := by decide

theorem test_hyp_PortServesOneTransaction :
    (isTransaction .go = true ∧ ¬ goesOn reading .go) ∧
    (isTransaction (.watch 1 true) = true ∧ ¬ goesOn reading (.watch 1 true)) ∧
    goesOn reading (.status 9 true) ∧ 0 < 7 ∧ 7 < 8 ∧ ([0x99] : List Byte) ≠ [] :=
  ⟨⟨rfl, id⟩, ⟨rfl, fun h => by cases h⟩, ⟨_, rfl, rfl⟩, by decide⟩

theorem test_hyp_resets (straps : Straps) :
    isReset (.powerOn straps) ∧ isReset (.resetPin straps) ∧ isReset (.reset straps) ∧
      ¬ isReset .go :=
  ⟨⟨_, Or.inl rfl⟩, ⟨_, Or.inr (Or.inl rfl)⟩, ⟨_, Or.inr (Or.inr rfl)⟩,
    fun ⟨_, h⟩ => by rcases h with h | h | h <;> cases h⟩

theorem test_hyp_ConfigWritesStoreUnchecked :
    State.reset.mem.station = .config ∧ (8 : Byte).toNat = (7 : Fin 8).val + 1 ∧
    (51 : Byte).toNat = (19 : Fin 20).val + 32 ∧ (8 < (31 : Byte).toNat ∧ (31 : Byte).toNat < 32) ∧
    51 < (52 : Byte).toNat ∧ (15 : Byte).toNat = (15 : Fin 16).val ∧ 15 < (16 : Byte).toNat ∧
    (station 1 .running).mem.station ≠ .config := by decide

/-- A joinable configuration with one line parameter out of range. -/
def badLineConfig : ParamStore := { (station 1 .config).params with line := lineDefaults.set 7 4 }
/-- A joinable configuration with one valid format entry out of range. -/
def badFormatConfig : ParamStore :=
  { (station 1 .config).params with formats := formats.set 15 ⟨1, 99, 0, 5, 0⟩ }
/-- A joinable configuration with one station parameter out of range. -/
def badStationConfig : ParamStore :=
  { (station 1 .config).params with station := stationDefaults.set 19 19 }

theorem test_hyp_JoinChecksThenAttaches :
    (station 1 .halted).mem.station ≠ .config ∧
    Role.ofCode (station 6 .config).params.straps.role.toNat = none ∧
    (lineRange 7 badLineConfig.line[(7 : Fin 8)].toNat = false ∧
      ∀ j < (7 : Fin 8), lineRange j badLineConfig.line[j].toNat = true) ∧
    (lineItemsPass badFormatConfig ∧ badFormatConfig.formats[(15 : Fin 16)].valid = 1 ∧
      entryInRange badFormatConfig.formats[(15 : Fin 16)] = false ∧
      ∀ j < (15 : Fin 16), badFormatConfig.formats[j].valid = 1 →
        entryInRange badFormatConfig.formats[j] = true) ∧
    (lineItemsPass (ParamStore.atReset ⟨1, 0, false⟩) ∧
      ∀ i : Fin 16, (ParamStore.atReset ⟨1, 0, false⟩).formats[i].valid ≠ 1) ∧
    (lineItemsPass badStationConfig ∧ formatItemsPass badStationConfig ∧
      stationRange 19 badStationConfig.station[(19 : Fin 20)].toNat = false ∧
      ∀ j < (19 : Fin 20), stationRange j badStationConfig.station[j].toNat = true) := by
  unfold lineItemsPass formatItemsPass; decide +kernel

theorem test_hyp_JoinChecksThenAttaches_accepted :
    (station 1 .config).mem.station = .config ∧ (station 1 .config).bus.txq = [] ∧
    lineItemsPass (station 1 .config).params ∧ formatItemsPass (station 1 .config).params ∧
    ∀ i : Fin 20, stationRange i (station 1 .config).params.station[i].toNat = true := by
  unfold lineItemsPass formatItemsPass; decide +kernel

/-- A PRESS station in WAIT_SHARE with its claim waiting. -/
def waitingPress : State :=
  { withZone (station 3 .running) [zrec cased .atWork] with
    work.press := .waitShare, heat.claim := .waiting, heat.use := .book, heat.claimWait := some 9 }

theorem test_hyp_MarkMarksTheRecordAtWork :
    (station 1 .running).atWork? = none ∧
    (let s := withZone (station 1 .running) [zrec book .atWork]
     s.mem.station = .running ∧ s.atWork? = some (zrec book .atWork) ∧
      ¬ (s.role = some .press ∧ s.work.press = .waitShare)) ∧
    (waitingPress.mem.station = .running ∧ waitingPress.atWork? = some (zrec cased .atWork) ∧
      waitingPress.role = some .press ∧ waitingPress.work.press = .waitShare ∧
      waitingPress.bus.txq.length < 15 ∧ waitingPress.heat.claim = .waiting) := by decide +kernel

theorem test_hyp_PurgeTakesTheRecordNamed :
    (station 1 .halted).mem.station = .halted ∧
    (∀ z ∈ (station 1 .joining).zt.zone, z.book.tag ≠ 5) ∧
    (waitingPress.zt.zone.find? (fun y => y.book.tag == 5) = some (zrec cased .atWork) ∧
      waitingPress.mem.station = .running ∧ waitingPress.work.press ≠ .idle) ∧
    (let s := withZone (station 5 .running) [zrec book .atWork]
     s.zt.zone.find? (fun y => y.book.tag == 5) = some (zrec book .atWork) ∧ s.work.press = .idle ∧
      s.bus.txq.length ≤ 14 ∧ s.role = some .gate) ∧
    (let s : State := { station 2 .joining with zt.incoming := [⟨book, 3, 0⟩] }
     (∀ z ∈ s.zt.zone, z.book.tag ≠ 5) ∧
      s.zt.incoming.find? (fun y => y.book.tag == 5) = some ⟨book, 3, 0⟩) := by decide +kernel

theorem test_hyp_MagazineClearEmptiesTheList :
    (station 3 .running).role ≠ some .case ∧
    (let s : State := { station 2 .running with work.cycle := some ⟨.skip, false, 1, 9⟩ }
     s.role = some .case ∧ s.work.cycle ≠ none) ∧
    (let s : State := { withZone (station 4 .running) [zrec finished .atWork] with
        work.parts := .waiting, mem.ownStop.magOverrun := true, parts.low := false }
     s.role = some .jacket ∧ s.work.cycle = none ∧ s.bus.txq.length < 16 ∧ s.highOffset < 24 ∧
      s.work.parts = .waiting ∧ s.atWork? = some (zrec finished .atWork) ∧
      (zrec finished .atWork).book.verdict = .good) ∧
    (let s : State := { withZone (station 2 .running) [zrec rejected .atWork] with work.parts := .waiting }
     s.work.cycle = none ∧ s.work.parts = .waiting ∧ s.atWork? = some (zrec rejected .atWork) ∧
      (zrec rejected .atWork).book.verdict = .reject ∧
      (after .magazineClear s).zt.zone = [zrec rejected .worked]) := by decide +kernel

theorem test_hyp_StopAndGoChangeTheOwnReasons :
    (station 1 .config).mem.station = .config ∧
    ((station 1 .joining).mem.station = .joining ∧ (station 1 .joining).bus.txq.length < 16) := by
  decide

theorem test_hyp_DrainHoldsUntilReset :
    ((station 1 .running).role = some .infeed ∧ (station 1 .running).mem.station ≠ .halted) ∧
    ¬ ((station 2 .running).role = some .infeed) ∧
    ({ station 1 .running with zt.draining := true } : State).zt.draining = true := by decide

theorem test_hyp_FrameStartSendsTheFirstEligible :
    (let s : State := { station 1 .running with
        bus.frame := .none, bus.quiet := 4
        bus.txq := [⟨.room true, 0⟩, ⟨.go, 3⟩, ⟨.stop Reasons.empty, 0⟩] }
     s.bus.attached = true ∧ s.bus.frame = .none ∧ s.bus.quiet + 6 < 11 ∧ 11 ≤ s.bus.quiet + 7 ∧
      s.bus.txq[1]? = some ⟨.go, 3⟩ ∧
      s.bus.txq.all fun e => decide (NoticeKind.cls .go ≤ e.notice.kind.cls)) ∧
    (let s : State := { station 1 .joining with bus.txq := [⟨.go, 0⟩, ⟨.join 1 0, 0⟩] }
     s.mem.station = .joining ∧ s.mem.joinWindow = none ∧
      s.bus.txq[1]? = some ⟨.join 1 0, 0⟩) ∧
    (station 1 .halted).bus.attached = false ∧ (station 1 .running).bus.frame ≠ .none := by decide

theorem test_hyp_FrameStart_none_eligible (k : Nat) (e : TxEntry) :
    ¬ firstToSend (station 1 .running) k e := fun h => by cases h.1

theorem test_hyp_FaultyFramesAreCountedOrDropped :
    (let s := sends (station 1 .running) .go .go []
     s.bus.attached = true ∧ s.bus.frame = .sending 0 .go [] ∧ s.bus.txq[0]? = some ⟨.go, 0⟩) ∧
    (let s : State := { station 1 .running with
        bus.txq := [⟨.go, 0⟩], bus.frame := .losing 0 .go ⟨0, 1⟩ }
     s.bus.attached = true ∧ s.bus.frame = .losing 0 .go ⟨0, 1⟩ ∧ s.bus.txq[0]? = some ⟨.go, 0⟩) ∧
    8 ≤ (⟨.go, 7⟩ : TxEntry).failures + 1 ∧
    State.reset.bus.attached = false ∧ State.reset.bus.frame = .none ∧
    ((station 1 .running).bus.attached = true ∧ (station 1 .running).bus.frame = .receiving) ∧
    (let s : State := { station 1 .running with bus.frame := .none, bus.drive := .abortRun }
     s.bus.frame = .none ∧ s.bus.drive = .abortRun) := by decide

theorem test_hyp_JournalAndMarksFollowTheirRules :
    ({ PortUnit.atReset with journal := List.replicate 32 ⟨.running, 0, .none, 0⟩ } :
      PortUnit).journal.length = 32 ∧ book.marks.length < 4 ∧
    4 ≤ (List.replicate 4 (⟨.unknown, 0⟩ : Mark)).length := by decide

theorem test_hyp_InsertedBitsComeOutAgain : (List.replicate 32 (0 : Byte)).length ≤ 32 := by decide

theorem test_hyp_SentFramesAreReadBack :
    sendable State.reset .beacon ∧ sendable State.reset (.handover 1 book 0) := by
  refine ⟨fun _ => by decide, fun h => ?_⟩; cases h

theorem test_hyp_RecordImagesGiveBackTheRecord :
    finished.lawful ∧ finished.key ≠ some 0 ∧ finished.copy ≠ some 0 ∧ finished.length.getD 0 ≤ 1023 ∧
    cased.lawful ∧ rejected.lawful := by
  unfold BookRecord.lawful; decide

/-- A BEACON's contents with a share snapshot. -/
def pressBeacon : BeaconContent :=
  ⟨3, true, 0, Vector.replicate 16 Reasons.empty, some ([0, 5], [⟨7, .keepwarm⟩])⟩

theorem test_hyp_BeaconPayloadsGiveBackTheirContents :
    pressBeacon.roleCode < 8 ∧ ([0, 5] : List Pos).Pairwise (· < ·) ∧
    ([⟨7, .keepwarm⟩] : List WaitEntry).length ≤ 15 := by decide

theorem test_hyp_FramesAreAppliedOnlyByMembers :
    completedFrame (.goNotice 2) = some (2, .go, []) ∧ State.reset.bus.attached = false ∧
    (let s := station 1 .joining
     s.bus.attached = true ∧ s.mem.station = .joining ∧ s.mem.joinWindow = none ∧ (4 : Pos) ≠ s.own ∧
      s.bus.frame = .receiving) ∧
    (let s := station 1 .running
     s.bus.attached = true ∧ s.own = 2 ∧ s.bus.frame = .receiving) := by decide


theorem test_hyp_StopAndGoNoticesSetTheStopSet :
    (station 1 .running).takesFrame 4 .stop [1] (peerFrame (station 1 .running) 4) ∧
    (station 1 .running).takesFrame 4 .go [] (peerFrame (station 1 .running) 4) :=
  ⟨test_takes_peer _ _ _ _ rfl (by decide) rfl, test_takes_peer _ _ _ _ rfl (by decide) rfl⟩

/-- A station whose bar is WARM with keep-warm due. -/
def kept (s : State) : State :=
  { s with heat.due := true, heat.warm := true, heat.warmLeft := some 9 }

/-- A PRESS station whose table has one holder and this station at the head of the wait list (budget 2, so
a second holder). -/
def tableState : State :=
  { waitingPress with
    heat.holders := [0, 4], heat.waits := [⟨2, .book⟩, ⟨6, .book⟩] }

theorem test_table_is_lawful : tableState.sharesLawful := by
  unfold State.sharesLawful waitOrder; decide

theorem test_hyp_AbsentTakesTheMemberAway :
    (tableState.takesFrame 4 .absent [byteOfPos 2] (peerFrame tableState 4) ∧ (2 : Pos) = tableState.own ∧
      tableState.mem.station = .running) ∧
    (tableState.takesFrame 4 .absent [byteOfPos 6] (peerFrame tableState 4) ∧ (6 : Pos) ≠ tableState.own ∧
      tableState.sharesLawful ∧ ¬ tableState.grantedBy 6) :=
  ⟨⟨test_takes_peer _ _ _ _ rfl (by decide) rfl, by decide, by decide⟩,
    test_takes_peer _ _ _ _ rfl (by decide) rfl, by decide, test_table_is_lawful,
    by unfold State.grantedBy; decide⟩

/-- A PRESS station with an empty share table and its claim queued. -/
def claimingPress : State :=
  { station 3 .running with heat.claim := .queued, heat.use := .keepwarm }

theorem test_hyp_ClaimsTakeTheirPlace :
    (station 1 .running).takesFrame 4 .claim [1] (peerFrame (station 1 .running) 4) ∧
    tableState.takesFrame 6 .claim [1] (peerFrame tableState 6) ∧
    (takesClassOne tableState 6 ∧ ∃ e ∈ tableState.heat.waits, e.position = 6) ∧
    (takesClassOne tableState 5 ∧ tableState.heat.holdOff = none ∧ 5 ∉ tableState.heat.holders ∧
      ¬ tableState.heat.holders.length < tableState.heatBudget) ∧
    (takesClassOne claimingPress 5 ∧ claimingPress.heat.holders.length < claimingPress.heatBudget ∧
      claimingPress.heat.waits = []) := by
  refine ⟨test_takes_peer _ _ _ _ rfl (by decide) rfl, test_takes_peer _ _ _ _ rfl (by decide) rfl, ?_⟩
  unfold takesClassOne; decide

/-- A PRESS station that holds a share it is giving back. -/
def returningPress : State :=
  { station 3 .running with heat.claim := .returning, heat.holders := [2] }
/-- A PRESS station in its hold-off, with keep-warm due and a record in its zone. -/
def holdingOff : State :=
  { withZone (station 3 .running) [zrec book .worked] with
    heat.holdOff := some 5, heat.due := true, heat.warm := true, heat.warmLeft := some 9 }

/-- A peer's CLAIM that is granted ends the hold-off; keep-warm that is due then asks, a pending book claim
before it (R136, R134, R141). -/
theorem test_hyp_ClaimsTakeTheirPlace_holdOff :
    holdingOff.takesFrame 5 .claim [1] (peerFrame holdingOff 5) ∧ takesClassOne holdingOff 5 ∧
    (let t := after (.claim 5 1) holdingOff
     t.heat.holders = [5] ∧ t.heat.holdOff = none ∧ t.heat.use = .keepwarm ∧
      t.bus.txq = [⟨.claim .keepwarm, 0⟩]) ∧
    (let t := after (.claim 5 1) { holdingOff with heat.pendingBook := true }
     t.heat.use = .book ∧ t.heat.pendingBook = false ∧ t.bus.txq = [⟨.claim .book, 0⟩]) ∧
    (after (.claim 5 1) { holdingOff with heat.holders := [5] }).heat.holdOff = some 5 := by
  refine ⟨test_takes_peer _ _ _ _ rfl (by decide) rfl, ?_⟩
  unfold takesClassOne; decide

theorem test_hyp_ClaimsTakeTheirPlace_own :
    (sends claimingPress (.claim .keepwarm) .claim [0]).takesFrame 2 .claim [0]
      (sentFrame (sends claimingPress (.claim .keepwarm) .claim [0])) ∧
    (takesClassOne claimingPress 2 ∧ claimingPress.heat.claim = .queued ∧
      claimingPress.heat.use = .keepwarm ∧ claimingPress.mem.guardOpen = false) ∧
    (let s : State := { claimingPress with heat.holders := [0, 4] }
     2 ∉ s.heat.holders ∧ ¬ s.heat.holders.length < s.heatBudget) ∧
    (let s : State := { claimingPress with heat.claim := .returning, heat.holdOff := some 5 }
     s.heat.claim = .returning ∧ s.heat.holdOff ≠ none) ∧
    (let s : State := { claimingPress with heat.holders := [2] }
     2 ∈ s.heat.holders ∧ s.heat.claim = .queued) ∧
    (2 ∈ returningPress.heat.holders ∧ returningPress.heat.claim = .returning) ∧
    (let s : State := { waitingPress with heat.claim := .queued, mem.guardOpen := true }
     s.heat.claim = .queued ∧ s.heat.use = .book ∧ s.work.press = .waitShare ∧
      s.heat.holders.length < s.heatBudget ∧ s.heat.waits = [] ∧ s.mem.guardOpen = true ∧
      s.mem.station = .running ∧ s.bus.txq.length < 16) := by
  refine ⟨test_takes_own claimingPress _ _ _ rfl, ?_⟩
  unfold takesClassOne; decide

/-- The wait list of chapter 8's example, and a list that only an adopted snapshot can give: a KEEPWARM claim
goes after the last KEEPWARM entry, and to the head where there is none (R128). -/
theorem test_place_waiting :
    placeWaiting ⟨6, .keepwarm⟩ [⟨4, .book⟩, ⟨5, .book⟩] = [⟨6, .keepwarm⟩, ⟨4, .book⟩, ⟨5, .book⟩] ∧
    placeWaiting ⟨5, .keepwarm⟩ [⟨3, .book⟩, ⟨4, .keepwarm⟩, ⟨6, .book⟩] =
      [⟨3, .book⟩, ⟨4, .keepwarm⟩, ⟨5, .keepwarm⟩, ⟨6, .book⟩] := by decide

theorem test_hyp_ReleaseAndWithdrawGiveThePlaceOn :
    tableState.takesFrame 6 .release [] (peerFrame tableState 6) ∧
    tableState.takesFrame 6 .withdraw [] (peerFrame tableState 6) ∧
    tableState.sharesLawful ∧ ¬ tableState.grantedBy 6 ∧ takesClassOne tableState 6 ∧
    ¬ takesClassOne (station 1 .running) 4 := by
  refine ⟨test_takes_peer _ _ _ _ rfl (by decide) rfl, test_takes_peer _ _ _ _ rfl (by decide) rfl,
    test_table_is_lawful, ?_⟩
  unfold takesClassOne State.grantedBy; decide

/-- A PRESS station that waits for a share it is giving back. -/
def withdrawingPress : State :=
  { station 3 .running with
    heat.claim := .returning, heat.holders := [0, 4], heat.waits := [⟨2, .book⟩] }

theorem test_hyp_OwnReturnEndsTheClaim :
    (sends returningPress .release .release []).takesFrame 2 .release []
      (sentFrame (sends returningPress .release .release [])) ∧
    (sends withdrawingPress .withdraw .withdraw []).takesFrame 2 .withdraw []
      (sentFrame (sends withdrawingPress .withdraw .withdraw [])) ∧
    (returningPress.sharesLawful ∧ returningPress.role = some .press ∧
      returningPress.own ∈ returningPress.heat.holders) ∧
    (withdrawingPress.sharesLawful ∧
      ∃ e ∈ withdrawingPress.heat.waits, e.position = withdrawingPress.own) ∧
    returningPress.holdOffMs ≠ 0 ∧
    (let s : State := { returningPress with
        params.station := returningPress.params.station.set 17 0, heat.pendingBook := true }
     s.holdOffMs = 0 ∧ s.mem.station = .running ∧ s.heat.pendingBook = true) ∧
    (withdrawingPress.heat.holdOff = none ∧
      ({ withdrawingPress with heat.holdOff := some 5 } : State).heat.holdOff ≠ none) := by
  refine ⟨test_takes_own returningPress _ _ _ rfl, test_takes_own withdrawingPress _ _ _ rfl, ?_⟩
  unfold State.sharesLawful waitOrder; decide

theorem test_hyp_GrantsReachTheClaim :
    (tableState.takesFrame 4 .release [] (peerFrame tableState 4) ∧
      tableState.takesFrame 4 .withdraw [] (peerFrame tableState 4) ∧
      tableState.takesFrame 6 .absent [byteOfPos 4] (peerFrame tableState 6) ∧
      (sends tableState (.absent 4) .absent [byteOfPos 4]).takesFrame 2 .absent [byteOfPos 4]
        (sentFrame (sends tableState (.absent 4) .absent [byteOfPos 4]))) ∧
    ((sends tableState (.absent 4) .absent [byteOfPos 4]).sharesLawful ∧
      (sends tableState (.absent 4) .absent [byteOfPos 4]).grantedBy 4 ∧
      (after (.absent 2 (byteOfPos 4)) (sends tableState (.absent 4) .absent [byteOfPos 4])).heat.claim =
        .holding) ∧
    ((4 : Pos) ≠ tableState.own ∧ tableState.role = some .press ∧
      (tableState.mem.members[(4 : Pos)]).foreign = false) ∧
    tableState.sharesLawful ∧ tableState.grantedBy 4 ∧
    (tableState.heat.claim = .waiting ∧ tableState.heat.use = .book ∧
      tableState.work.press = .waitShare ∧ tableState.mem.guardOpen = false) ∧
    (let s : State := { tableState with mem.guardOpen := true }
     s.mem.guardOpen = true ∧ s.mem.station = .running ∧ (peerFrame s 4).bus.txq.length < 16) ∧
    ({ tableState with heat.use := .keepwarm } : State).heat.use = .keepwarm ∧
    ({ tableState with heat.claim := .returning } : State).heat.claim = .returning := by
  refine ⟨⟨test_takes_peer _ _ _ _ rfl (by decide) rfl, test_takes_peer _ _ _ _ rfl (by decide) rfl,
    test_takes_peer _ _ _ _ rfl (by decide) rfl, test_takes_own tableState _ _ _ rfl⟩,
    ⟨test_table_is_lawful, by unfold State.grantedBy; decide, by decide⟩, by decide, test_table_is_lawful, ?_⟩
  unfold State.grantedBy; decide

/-- The same with the holder a RUNNING member, which joins again. -/
def rejoined : State :=
  { tableState with
    mem.members := (Vector.replicate 16 Member.unknown).set 4 ⟨.running, some .press, false⟩ }

theorem test_hyp_GrantsReachTheClaim_rejoin :
    rejoined.takesFrame 4 .join (3 :: bytes2 0) (peerFrame rejoined 4) ∧ rejoined.sharesLawful ∧
    rejoined.grantedBy 4 ∧ (rejoined.mem.members[(4 : Pos)]).status = .running ∧
    rejoined.mem.station ≠ .halted := by
  refine ⟨test_takes_peer _ _ _ _ rfl (by decide) rfl, test_table_is_lawful, ?_⟩
  unfold State.grantedBy; decide

theorem test_hyp_ShareTableKeepsItsLaws :
    tableState.sharesLawful ∧ exec (.release 4) tableState = exec (.release 4) tableState ∧
      ∃ t, exec (.release 4) tableState = .next t := ⟨test_table_is_lawful, rfl, _, rfl⟩

/-- The image of `cased`. -/
def casedImage : RecordImage := ⟨#[0, 5, 0, 0, 7, 0, 1, 0, 2, 9, 0, 40, 0, 0, 0, 0, 0, 0xFF, 0xFF, 0, 0,
  0, 0, 0], rfl⟩

theorem test_image_is_read : recordOf casedImage = cased := by decide

theorem test_hyp_HandoversAreTakenOrUndelivered :
    (station 2 .running).takesFrame 1 .handover (byteOfPos 2 :: casedImage.toList)
      (peerFrame (station 2 .running) 1) ∧
    (let s := withZone (station 2 .running) [zrec book .entering]
     (recordOf casedImage).tag ≠ 0 ∧ ∃ z ∈ s.zt.zone, z.book.tag = (recordOf casedImage).tag) ∧
    (let s := withZone (station 2 .running)
        [{ zrec (BookRecord.created 0) .entering with adoption := some 3 }]
     s.zt.zone.find? (fun y => y.adoption.isSome) ≠ none ∧
      (∀ z ∈ s.zt.zone, z.book.tag ≠ 5 ∧ z.book.length = none)) ∧
    (let z : ZoneRecord :=
        { zrec { BookRecord.created 0 with length := some 205 } .entering with adoption := some 3 }
     let s := withZone (station 2 .running) [z]
     z.book.length = some 205 ∧ (s.params.formats[(0 : FormatIx)]).nominal.toNat +
       (s.params.formats[(0 : FormatIx)]).tolerance.toNat < 205 ∧ book.format = some 0) ∧
    ({ cased with openTime := some 0 } : BookRecord).openTime = some 0 ∧
    (let s : State := { station 2 .running with
        zt.incoming := List.replicate 4 ⟨BookRecord.created 1, 3, 0⟩ }
     (∀ y ∈ s.zt.zone, y.adoption = none) ∧ 4 ≤ s.zt.incoming.length ∧
      ∀ r ∈ s.zt.incoming, r.book.tag ≠ 5) ∧
    (station 2 .running).zt.incoming.length < 4 := by
  refine ⟨test_takes_peer _ _ _ _ rfl (by decide) rfl, ?_⟩; decide

theorem test_hyp_HandoversAreTakenOrUndelivered_own :
    (let n : Notice := .handover 4 cased 0
     (sends (station 2 .running) n .handover (byteOfPos 4 :: casedImage.toList)).takesFrame 2 .handover
      (byteOfPos 4 :: casedImage.toList)
      (sentFrame (sends (station 2 .running) n .handover (byteOfPos 4 :: casedImage.toList)))) ∧
    ((station 2 .running).mem.members[(4 : Pos)]).status = .unknown ∧
    (let s : State := { station 2 .running with
        mem.members := (Vector.replicate 16 Member.unknown).set 4 ⟨.running, some .press, false⟩ }
     (s.mem.members[(4 : Pos)]).status = .running ∧ (s.mem.members[(4 : Pos)]).foreign = false) := by
  refine ⟨test_takes_own (station 2 .running) _ _ _ rfl, ?_⟩; decide

theorem test_hyp_RoomAndVoidReachTheirTables :
    (station 2 .running).takesFrame 4 .room [1] (peerFrame (station 2 .running) 4) ∧
    (station 2 .running).takesFrame 4 .void (bytes3 7 ++ [0, 1]) (peerFrame (station 2 .running) 4) ∧
    ((station 2 .running).role = some .case ∧ (1 : Byte).getLsbD 0 = true ∧
      (station 2 .running).parts.voids.length < 16) ∧
    unwanted [⟨7, some 0⟩] part ∧
    ((station 4 .running).role = some .jacket ∧ (2 : Byte).getLsbD 1 = true ∧
      16 ≤ (List.replicate 16 (⟨7, none⟩ : VoidEntry)).length) := by
  refine ⟨test_takes_peer _ _ _ _ rfl (by decide) rfl, test_takes_peer _ _ _ _ rfl (by decide) rfl, ?_⟩
  unfold unwanted; decide

/-- A JOINING station that awaits the completion of its own JOIN. -/
def joiner : State := { station 2 .joining with mem.joinWindow := some 9 }

theorem test_takes_joiner (p : Pos) (k : NoticeKind) (l : List Byte) (h : p ≠ 2) :
    joiner.takesFrame p k l (peerFrame joiner p) :=
  ⟨rfl, by decide, Or.inl ⟨h, fun hj => absurd hj.2 (by decide), rfl⟩⟩

theorem test_hyp_JoinsMakeMembers :
    joiner.takesFrame 4 .join (1 :: bytes2 9) (peerFrame joiner 4) ∧ joiner.mem.station = .joining ∧
    (9 : W16) ≠ joiner.params.digest ∧
    (station 2 .running).takesFrame 4 .join (1 :: bytes2 9) (peerFrame (station 2 .running) 4) ∧
    ((station 2 .running).role ≠ some .press ∧ (station 2 .running).mem.station = .running) ∧
    (let s := station 2 .joining
     (sends s (.join 2 0) .join (2 :: bytes2 0)).takesFrame 2 .join (2 :: bytes2 0)
      (sentFrame (sends s (.join 2 0) .join (2 :: bytes2 0))) ∧
     (s.mem.members[(2 : Pos)]).status = .unknown) :=
  ⟨test_takes_joiner _ _ _ (by decide), by decide, by decide,
    test_takes_peer _ _ _ _ rfl (by decide) rfl, by decide,
    test_takes_own (station 2 .joining) _ _ _ rfl, by decide⟩

theorem test_hyp_BeaconsMakeMembersRunning :
    beaconLengthKnown (beaconBytes pressBeacon).length = true ∧
    joiner.takesFrame 4 .beacon (beaconBytes pressBeacon) (peerFrame joiner 4) ∧
    (station 3 .running).takesFrame 4 .beacon (beaconBytes pressBeacon)
      (peerFrame (station 3 .running) 4) ∧
    ((beaconOf (beaconBytes pressBeacon)).digest = joiner.params.digest ∧
      (beaconOf (beaconBytes pressBeacon)).shares = some ([0, 5], [⟨7, .keepwarm⟩]) ∧
      2 ∉ ([0, 5] : List Pos) ∧ (station 3 .joining).mem.shareAdopted = false) ∧
    (beaconOf (beaconBytes { pressBeacon with digest := 9 })).digest ≠ joiner.params.digest := by
  refine ⟨by decide +kernel, test_takes_joiner _ _ _ (by decide),
    test_takes_peer _ _ _ _ rfl (by decide) rfl, ?_⟩
  decide +kernel

/-- A snapshot that names the joiner itself (R145). -/
theorem test_hyp_BeaconsMakeMembersRunning_named :
    (let s : State := { station 3 .joining with mem.joinWindow := some 5 }
     let payload := beaconBytes { pressBeacon with shares := some ([0, 2], []) }
     s.takesFrame 4 .beacon payload (peerFrame s 4) ∧ beaconLengthKnown payload.length = true ∧
      (beaconOf payload).digest = s.params.digest ∧
      (beaconOf payload).shares = some ([0, 2], []) ∧ s.own ∈ ([0, 2] : List Pos) ∧
      s.mem.shareAdopted = false ∧ (peerFrame s 4).bus.txq.length < 16) :=
  ⟨⟨rfl, by decide, Or.inl ⟨by decide, by decide, rfl⟩⟩, by decide +kernel⟩

theorem test_hyp_TimersAnnounceOnce :
    (let s : State := { station 1 .running with
        mem.silence := (Vector.replicate 16 none).set 4 (some 0), mem.beaconTimer := some 0 }
     s.mem.station = .running ∧ s.mem.silence[(4 : Pos)] ≠ none ∧ s.mem.beaconTimer ≠ none ∧
      (∀ e ∈ s.bus.txq, e.notice ≠ .absent 4) ∧ s.bus.txq.length < 16) ∧
    (∃ e ∈ [(⟨.absent 4, 0⟩ : TxEntry)], e.notice = .absent 4) ∧
    (∃ e ∈ [(⟨.beacon, 0⟩ : TxEntry)], e.notice = .beacon) ∧
    16 ≤ (List.replicate 16 (⟨.go, 0⟩ : TxEntry)).length ∧
    (∀ e ∈ List.replicate 16 (⟨.go, 0⟩ : TxEntry), e.notice ≠ .beacon ∧ e.notice ≠ .absent 4) := by decide

theorem test_hyp_JoinWindowEndEntersRunning :
    joiner.mem.station = .joining ∧ joiner.mem.joinWindow ≠ none ∧ joiner.joiningLawful ∧
    joiner.mem.ownStop.guard = false ∧ joiner.heat.pendingBook = false ∧ joiner.heat.due = false ∧
    joiner.bus.txq.length ≤ 14 := by
  unfold State.joiningLawful; decide

theorem test_hyp_IdsAndReadWindows :
    (let s := station 1 .running
     s.mem.station = .running ∧ s.role = some .infeed ∧ s.rd.assembly = [] ∧ s.rd.window = none) ∧
    (7 : Key) ≠ 0 ∧ (1 : W16) ≠ 0 ∧
    (let s : State := { station 2 .running with
        rd.window := some 5, parts.magazine := [{ part with waiting := true }] }
     s.role = some .case ∧ s.rd.window ≠ none ∧ s.role ≠ some .infeed ∧ s.work.cycle = none ∧
      s.parts.magazine.find? PartEntry.waiting = some { part with waiting := true }) ∧
    (1 : Byte) ≠ (bytes3 7 ++ bytes2 1 ++ [0]).foldl (· ^^^ ·) 0 ∧
    ({ station 1 .running with rd.assembly := [0xA5], rd.window := some 5 } : State).rd.assembly ≠ [] ∧
    ¬ ((station 3 .running).role = some .infeed ∨ (station 3 .running).role = some .case ∨
      (station 3 .running).role = some .jacket) := by decide

theorem test_hyp_DistancesRunByEncoderCounts :
    (station 1 .joining).mem.station ≠ .running ∧ (station 2 .running).mem.station = .running ∧
    (∃ z ∈ [{ zrec (BookRecord.created 0) .entering with adoption := some 0 }], z.adoption ≠ none) ∧
    (let s : State := { station 2 .running with zt.incoming := [⟨book, 0, 0⟩] }
     s.zt.incoming = [⟨book, 0, 0⟩] ∧ s.bus.txq.length ≤ 14) := by decide

/-- Eight WORKED records. -/
def fullZone : List ZoneRecord := List.replicate 8 (zrec book .worked)

theorem test_hyp_EntryEdgesTakeTheNextRecord :
    (let s := station 1 .running
     s.mem.station = .running ∧ s.bus.txq.length ≤ 14 ∧ s.role = some .infeed ∧ s.zt.zone.length < 8) ∧
    8 ≤ fullZone.length ∧
    (let s : State := { station 2 .running with zt.incoming := [⟨book, 0, 0⟩] }
     s.role ≠ some .infeed ∧ s.zt.zone.length < 8 ∧ s.zt.incoming = [⟨book, 0, 0⟩]) ∧
    ((station 2 .running).zt.incoming = [] ∧ (station 2 .running).adoptionCounts ≠ 0) ∧
    (let s := kept (station 3 .running)
     s.zt.zone = [] ∧ s.zt.incoming = [] ∧ s.role = some .press ∧ s.heat.due = true ∧
      s.heat.warm = true ∧ s.heat.claim = .none ∧ s.heat.holdOff = none ∧ s.work.press = .idle ∧
      s.mem.guardOpen = false ∧
      (after .entryLeadingEdge s).bus.txq = [⟨.claim .keepwarm, 0⟩]) ∧
    (withZone { station 2 .running with zt.incoming := [⟨book, 0, 0⟩] } fullZone).zt.zone.length = 8 := by
  decide

theorem test_hyp_EntryTrailingEdgeMeasuresTheRecord :
    (∀ z ∈ (station 2 .running).zt.zone, z.counting = false) ∧
    (let z : ZoneRecord := { zrec cased .atWork with counting := true }
     let s := withZone waitingPress [z]
     s.zt.zone.find? (fun y => y.counting) = some z ∧ z.phase = .atWork ∧ s.role = some .press ∧
      s.work.press = .waitShare ∧ s.heat.claim = .waiting ∧ z.book.format = some 0 ∧
      min 1023 (0 / s.scale) + (s.params.formats[(0 : FormatIx)]).tolerance.toNat <
        (s.params.formats[(0 : FormatIx)]).nominal.toNat) ∧
    (let z : ZoneRecord := { zrec book .entering with counting := true }
     let s : State := { withZone (station 2 .running) [z] with zt.lengthCount := 411 }
     s.zt.zone.find? (fun y => y.counting) = some z ∧ s.work.press ≠ .waitShare ∧
      z.book.format = some 0 ∧
      (s.params.formats[(0 : FormatIx)]).nominal.toNat +
        (s.params.formats[(0 : FormatIx)]).tolerance.toNat < min 1023 (s.zt.lengthCount / s.scale) ∧
      min 1023 (409 / s.scale) ≤ (s.params.formats[(0 : FormatIx)]).nominal.toNat +
        (s.params.formats[(0 : FormatIx)]).tolerance.toNat) := by decide +kernel

/-- The claims that a press in WAIT_SHARE gives up: taken over from keep-warm and so with keep-warm still
due, queued and waiting; HOLDING for keep-warm with no burst; RETURNING; and NONE, where keep-warm that is due
is held back by the hold-off or asked for at once. -/
theorem test_hyp_leavesWaitShare :
    (let s := kept waitingPress
     s.heat.due = true ∧ s.heat.claim = .waiting ∧ s.work.press = .waitShare ∧ s.bus.txq.length < 16 ∧
      (after (.openTimeExpiry (.zone 0)) s).bus.txq = [⟨.withdraw, 0⟩]) ∧
    (kept { waitingPress with heat.claim := .queued }).heat.claim = .queued ∧
    (let s := kept { waitingPress with heat.claim := .holding, heat.use := .keepwarm }
     s.heat.claim = .holding ∧ (after (.openTimeExpiry (.zone 0)) s).bus.txq = [⟨.release, 0⟩]) ∧
    (kept { waitingPress with heat.claim := .returning }).heat.claim = .returning ∧
    (let s := kept { waitingPress with heat.claim := .none, heat.use := .none, heat.holdOff := some 5 }
     s.heat.claim = .none ∧ (after (.openTimeExpiry (.zone 0)) s).bus.txq = []) ∧
    (let s := kept { waitingPress with heat.claim := .none, heat.use := .none }
     s.heat.claim = .none ∧ s.heat.holdOff = none ∧
      (after (.openTimeExpiry (.zone 0)) s).bus.txq = [⟨.claim .keepwarm, 0⟩]) := by decide

theorem test_hyp_OpenTimeExpiryMarksTheRecord :
    (let s : State := { station 2 .joining with zt.incoming := [⟨cased, 0, 0⟩] }
     s.mem.station = .joining ∧ s.zt.incoming[0]? = some ⟨cased, 0, 0⟩ ∧ cased.openTime ≠ none) ∧
    (let s := withZone (station 4 .running) [zrec cased .worked]
     s.zt.zone[0]? = some (zrec cased .worked) ∧ s.role ≠ some .press) ∧
    (waitingPress.zt.zone[0]? = some (zrec cased .atWork) ∧ waitingPress.role = some .press ∧
      waitingPress.work.press = .waitShare ∧ waitingPress.heat.claim = .waiting ∧ waitingPress.bus.txq.length < 16) ∧
    ({ waitingPress with heat.claim := .returning } : State).heat.claim = .returning := by decide

/-- A station of a role with a record ENTERING. -/
def entering (role : BitVec 3) (b : BookRecord) : State :=
  withZone (station role .running) [zrec b .entering]

theorem test_goes_to_work (role : BitVec 3) (b : BookRecord) :
    goesToWork (entering role b) (zrec b .entering) := ⟨rfl, rfl, rfl⟩

theorem test_hyp_WorkEdgeBeginsInfeedAndGateWork :
    (withZone (station 1 .running) [zrec book .atWork]).atWork? ≠ none ∧
    ((∀ z ∈ fullZone, z.phase ≠ .entering) ∧ (withZone (station 1 .running) fullZone).atWork? = none) ∧
    ((entering 1 book).role = some .infeed ∧ book.tag ≠ 0 ∧ (entering 1 book).rd.slot = none) ∧
    ({ entering 1 book with rd.slot := some ⟨7, 1, 0⟩ } : State).rd.slot = some ⟨7, 1, 0⟩ ∧
    (BookRecord.created 0).tag = 0 ∧
    ((entering 5 book).role = some .gate ∧ rejected.verdict = .reject ∧ book.verdict = .good ∧
      book.caseMarriage = none) ∧
    (finished.tag ≠ 0 ∧ finished.verdict = .good ∧ finished.caseMarriage ≠ none ∧ finished.pressed = true ∧
      finished.jacketMarriage ≠ none) := by decide

theorem test_hyp_WorkEdgeBeginsPressWork :
    (goesToWork (entering 3 cased) (zrec cased .entering) ∧ (entering 3 cased).role = some .press) ∧
    rejected.verdict = .reject ∧ (book.verdict = .good ∧ book.tag ≠ 0 ∧ book.caseMarriage = none) ∧
    (cased.verdict = .good ∧ cased.tag ≠ 0 ∧ cased.pressed = false ∧ cased.caseMarriage ≠ none ∧
      cased.format = some 0) ∧
    (let s : State := { entering 3 cased with
        heat.claim := .holding, heat.use := .keepwarm, heat.burst := some 9 }
     s.heat.claim = .holding ∧ s.heat.use = .keepwarm ∧ s.heat.burst ≠ none) ∧
    ((entering 3 cased).heat.claim = .none ∧ (entering 3 cased).heat.holdOff = none ∧
      (entering 3 cased).bus.txq.length < 16) :=
  ⟨⟨test_goes_to_work 3 cased, by decide⟩, by decide⟩

/-- The same with keep-warm due, as a claim asked for it leaves it: a pass asks for the share; a keep-warm
claim queued or waiting is taken over; a claim RETURNING, a hold-off, and a claim HOLDING for keep-warm with no
burst each leave the book claim pending. -/
theorem test_hyp_WorkEdgeBeginsPressWork_due :
    (goesToWork (kept (entering 3 rejected)) (zrec rejected .entering) ∧
      (after (.workLeadingEdge .named) (kept (entering 3 rejected))).bus.txq =
        [⟨.claim .keepwarm, 0⟩]) ∧
    goesToWork (kept (entering 3 cased)) (zrec cased .entering) ∧
    (let s := kept { entering 3 cased with heat.claim := .queued, heat.use := .keepwarm }
     s.heat.due = true ∧ s.heat.claim = .queued ∧ s.heat.use = .keepwarm) ∧
    (let s := kept { entering 3 cased with heat.claim := .waiting, heat.use := .keepwarm }
     s.heat.claim = .waiting ∧ s.heat.use = .keepwarm ∧
      (after (.workLeadingEdge .named) s).heat.use = .book) ∧
    (kept { entering 3 cased with heat.claim := .returning }).heat.claim = .returning ∧
    (let s := kept { entering 3 cased with heat.holdOff := some 5 }
     s.heat.claim = .none ∧ s.heat.holdOff ≠ none) ∧
    (let s := kept { entering 3 cased with heat.claim := .holding, heat.use := .keepwarm }
     s.heat.claim = .holding ∧ s.heat.use = .keepwarm ∧ s.heat.burst = none ∧
      (after (.workLeadingEdge .named) s).heat.pendingBook = true) :=
  ⟨⟨⟨rfl, rfl, rfl⟩, by decide⟩, ⟨rfl, rfl, rfl⟩, by decide⟩

theorem test_hyp_WorkEdgeMatchesTheRecord :
    (goesToWork (entering 2 book) (zrec book .entering) ∧ (entering 2 book).role = some .case) ∧
    rejected.verdict = .reject ∧
    ((entering 4 cased).role = some .jacket ∧ book.jacketMarriage = none ∧ book.caseMarriage = none ∧
      cased.caseMarriage ≠ none ∧ cased.pressed = false) ∧
    (book.verdict = .good ∧ book.tag ≠ 0 ∧ book.caseMarriage = none ∧
      (entering 2 book).work.cycle = none ∧ (entering 2 book).rd.window = none ∧
      (entering 2 book).parts.doubt = false) ∧
    (let b : BookRecord := { finished with jacketMarriage := none }
     b.jacketMarriage = none ∧ b.caseMarriage ≠ none ∧ b.pressed = true) ∧
    entryIsFor book part ∧ ¬ entryIsFor book other ∧
    ([other, part][1]? = some part ∧ 1 ≤ (entering 2 book).lookahead) := by
  refine ⟨⟨test_goes_to_work 2 book, by decide⟩, ?_⟩
  unfold entryIsFor; decide

theorem test_hyp_ExitEdgeTakesTheWorkedHead :
    (∀ z, (withZone (station 2 .running) []).zt.zone.head? = some z → z.phase ≠ .worked) ∧
    ((withZone (station 2 .running) [zrec book .worked]).bus.txq.length ≤ 14 ∧
      (station 2 .running).params.straps.isEnd = false ∧
      ∀ p : Pos, (station 2 .running).own < p →
        ((station 2 .running).mem.members[p]).status = .unknown) ∧
    (let s : State := { station 2 .running with
        mem.members := (Vector.replicate 16 Member.unknown).set 4 ⟨.absent, some .press, false⟩ }
     s.own < (4 : Pos) ∧ (s.mem.members[(4 : Pos)]).status ≠ .unknown ∧
      ∀ q : Pos, s.own < q → q < 4 → (s.mem.members[q]).status = .unknown) ∧
    ({ station 2 .running with params.straps.isEnd := true } : State).params.straps.isEnd = true := by
  refine ⟨fun z h => (by cases h), ?_⟩; decide

theorem test_hyp_DivertsAreConfirmedOrFail :
    (station 5 .running).work.divert = none ∧
    (let s : State := { withZone (station 5 .running) [zrec rejected .atWork] with
        work.divert := some 0 }
     s.mem.station = .running ∧ s.role = some .gate ∧ s.work.divert ≠ none ∧
      s.atWork? = some (zrec rejected .atWork) ∧ s.bus.txq.length ≤ 14) := by decide

theorem test_hyp_FeedEdgesAppendParts :
    24 ≤ (List.replicate 24 part).length ∧ (station 2 .running).bus.txq.length < 16 ∧
    (let s : State := { station 4 .running with
        rd.slot := some ⟨7, 1, 0⟩, parts.magazine := List.replicate 23 part }
     s.role = some .jacket ∧ s.parts.magazine.length < 24 ∧ s.parts.doubt = false ∧
      s.rd.slot = some ⟨7, 1, 0⟩) ∧
    ({ station 2 .running with parts.doubt := true } : State).parts.doubt = true ∧
    (∀ e ∈ [part], e.waiting = false) ∧
    [part, { other with waiting := true }].find? PartEntry.waiting = some { other with waiting := true } := by
  decide

theorem test_hyp_CyclesEndOrTimeOut :
    (station 2 .running).work.cycle = none ∧
    (let s : State := { withZone (station 2 .running) [zrec cased .atWork] with
        work.parts := .cycling, work.cycle := some ⟨.marry, true, 9, 0⟩ }
     s.work.cycle = some ⟨.marry, true, 9, 0⟩ ∧ s.bus.txq.length < 16) ∧
    (let s : State := { withZone (station 2 .running) [zrec book .atWork] with
        work.parts := .skipping, work.cycle := some ⟨.skip, true, 9, 0⟩
        work.matchIndex := some 1, parts.magazine := [part] }
     s.work.cycle = some ⟨.skip, true, 9, 0⟩ ∧ s.atWork? = some (zrec book .atWork) ∧
      book.verdict = .good ∧ s.parts.doubt = false ∧ s.parts.magazine = [part] ∧
      s.work.matchIndex = some 1) ∧
    rejected.verdict = .reject ∧
    (let s : State := { withZone (station 2 .running) [zrec book .atWork] with
        work.parts := .waiting, work.cycle := some ⟨.marry, false, 9, 0⟩ }
     s.work.cycle = some ⟨.marry, false, 9, 0⟩ ∧ s.bus.txq.length < 16) ∧
    ({ station 4 .running with work.matchIndex := some 2 } : State).work.matchIndex = some (0 + 2) := by
  decide

/-- The cases of the relations that speak of the magazine: a head that housekeeping skips and one it leaves,
and a match at the head, further on, and nowhere. -/
theorem test_hyp_magazine_relations :
    (let s : State := { station 2 .running with
        parts.magazine := [part], parts.voids := [⟨7, some 0⟩] }
     s.mem.station = .running ∧ s.role = some .case ∧ s.work.parts = .idle ∧ s.work.cycle = none ∧
      s.parts.doubt = false ∧ unwanted s.parts.voids part ∧ ¬ unwanted [] part) ∧
    (let s : State := { withZone (station 2 .running) [zrec book .atWork] with
        work.parts := .waiting, parts.magazine := [other, part] }
     s.work.parts = .waiting ∧ s.work.cycle = none ∧ s.rd.window = none ∧
      s.atWork? = some (zrec book .atWork) ∧ book.verdict = .good ∧ 1 ≤ s.lookahead ∧
      s.parts.magazine[1]? = some part ∧ entryIsFor book part ∧ ¬ entryIsFor book other ∧
      ∀ e ∈ [other].take (s.lookahead + 1), ¬ entryIsFor book e) := by
  unfold unwanted entryIsFor; decide

/-- The cases of a grant: for a book and for keep-warm, with the guard closed and open, and unwanted. -/
theorem test_hyp_grantReaches :
    (waitingPress.heat.claim = .waiting ∧ waitingPress.heat.use = .book ∧
      waitingPress.work.press = .waitShare ∧ waitingPress.mem.guardOpen = false) ∧
    (claimingPress.heat.claim = .queued ∧ claimingPress.heat.use = .keepwarm ∧
      claimingPress.mem.guardOpen = false) ∧
    (let s : State := { claimingPress with mem.guardOpen := true }
     s.mem.guardOpen = true ∧ s.mem.station = .running ∧ s.bus.txq.length < 16) ∧
    returningPress.heat.claim = .returning := by decide

theorem test_hyp_HeatTimersAct :
    (let s : State := { station 3 .running with
        heat.holdOff := some 0, heat.pendingBook := true }
     s.heat.holdOff ≠ none ∧ s.heat.due = false ∧ s.heat.pendingBook = true ∧ s.heat.claim = .none) ∧
    (waitingPress.heat.claim = .waiting ∧ waitingPress.heat.claimWait ≠ none ∧
      waitingPress.heat.use = .book) ∧
    (let s : State := { waitingPress with heat.waits := [⟨2, .keepwarm⟩] }
     s.heat.waits.find? (fun e => e.position == s.own) = some ⟨2, .keepwarm⟩) ∧
    (let s : State := { withZone (station 3 .running) [zrec book .worked] with
        heat.warm := true, heat.warmLeft := some 0 }
     s.heat.warmLeft = some 0 ∧ s.heat.due = false ∧ s.role = some .press ∧ s.heat.claim = .none ∧
      s.heat.holdOff = none ∧ s.heat.warm = true ∧ s.zt.zone ≠ [] ∧ s.work.press = .idle ∧
      s.mem.guardOpen = false ∧ s.mem.station = .running ∧ s.bus.txq.length < 16) ∧
    (claimingPress.heat.claim = .queued ∧ claimingPress.heat.use = .keepwarm) ∧
    (let s : State := { station 3 .running with heat.burst := some 0, heat.claim := .holding }
     s.heat.burst ≠ none ∧ s.heat.claim = .holding) := by decide

/-- A PRESS station that heats a book. -/
def heatingPress : State :=
  { withZone (station 3 .running) [zrec { cased with openTime := none } .atWork] with
    work.press := .heat, work.heat := some ⟨80, 50, 13000⟩, heat.claim := .holding
    heat.use := .book, heat.holders := [2] }

theorem test_hyp_PressPhasesEnd :
    (heatingPress.mem.station = .running ∧
      heatingPress.atWork? = some (zrec { cased with openTime := none } .atWork) ∧
      heatingPress.work.heat = some ⟨80, 50, 13000⟩ ∧ heatingPress.work.press = .heat ∧
      heatingPress.heat.claim = .holding ∧ heatingPress.bus.txq.length < 16) ∧
    (heatingPress.params.formats[(0 : FormatIx)]).setTime.toNat * 100 ≠ 0 ∧
    (let s : State := { heatingPress with work.press := .set }
     s.work.press = .set) ∧
    (let s := kept { heatingPress with
        work.press := .set, work.heat := none, heat.claim := .none, heat.use := .none, heat.holders := [] }
     s.work.press = .set ∧ s.heat.due = true ∧ s.heat.holdOff = none ∧ s.zt.zone ≠ [] ∧
      (after .setEnd s).bus.txq = [⟨.claim .keepwarm, 0⟩]) ∧
    (let s : State := { heatingPress with work.press := .suspended, work.suspendLeft := some 0 }
     s.work.press = .suspended ∧ s.work.suspendLeft ≠ none) := by decide

theorem test_hyp_GuardStopsAndSuspends :
    ((station 1 .running).mem.station = .running ∧ (station 1 .running).bus.txq.length ≤ 13 ∧
      (station 1 .running).work.heat = none ∧ (station 1 .running).heat.burst = none) ∧
    (heatingPress.work.heat = some ⟨80, 50, 13000⟩ ∧ heatingPress.heat.claim = .holding ∧
      heatingPress.maxSuspendMs ≠ 0) ∧
    (let s : State := { station 3 .running with heat.burst := some 5, heat.claim := .holding }
     s.work.heat = none ∧ s.heat.burst ≠ none) ∧
    (let s : State := { heatingPress with
        work.press := .suspended, work.heat := none, heat.claim := .none
        work.book := ⟨50, 20, false, false, false⟩ }
     s.work.press = .suspended ∧ s.atWork?.isSome = true ∧
      s.work.book.suspendReached = false ∧ s.work.book.allowance - s.work.book.credited ≠ 0 ∧
      s.heat.claim = .none ∧ s.heat.holdOff = none) ∧
    ({ heatingPress with heat.claim := .none, heat.holdOff := some 5 } : State).heat.holdOff ≠ none ∧
    (let s : State := { waitingPress with
        work.book := ⟨50, 0, false, false, true⟩, heat.claim := .returning }
     s.work.press = .waitShare ∧ s.work.book.returned = true ∧ s.heat.claim = .returning) := by decide

/-- A PRESS station whose book is suspended with the guard open, with keep-warm due. -/
def suspendedPress (b : BookRecord) (w : PressBook) : State :=
  kept { withZone (station 3 .running) [zrec b .atWork] with
    work.press := .suspended, work.suspendLeft := some 9, work.book := w
    mem.guardOpen := true, mem.ownStop.guard := true }

/-- The guard's close with keep-warm due: in IDLE it asks for the share; in SUSPENDED it ends the work of a
REJECT book and of one past max suspend, of a pressed one by the set phase or, with a set time of 0, at once,
and has any other ask again, or hold a pending claim in the hold-off. -/
theorem test_hyp_GuardStopsAndSuspends_closing :
    (let s := kept { withZone (station 3 .running) [zrec book .worked] with
        mem.guardOpen := true, mem.ownStop.guard := true }
     s.work.press = .idle ∧
      (after .guardCloses s).bus.txq = [⟨.go, 0⟩, ⟨.claim .keepwarm, 0⟩]) ∧
    (let s := suspendedPress rejected ⟨50, 20, false, false, false⟩
     s.atWork? = some (zrec rejected .atWork) ∧ rejected.verdict = .reject ∧ s.bus.txq.length ≤ 13 ∧
      (after .guardCloses s).bus.txq = [⟨.go, 0⟩, ⟨.claim .keepwarm, 0⟩]) ∧
    (suspendedPress cased ⟨50, 20, false, true, false⟩).work.book.suspendReached = true ∧
    (let s := suspendedPress finished ⟨50, 50, false, false, false⟩
     s.atWork? = some (zrec finished .atWork) ∧ finished.verdict = .good ∧ finished.pressed = true ∧
      (s.params.formats[(0 : FormatIx)]).setTime.toNat * 100 ≠ 0 ∧
      (after .guardCloses s).work.press = .set) ∧
    (let s := suspendedPress { finished with format := none } ⟨50, 50, false, false, false⟩
     s.work.book.suspendReached = false ∧ s.work.book.allowance - s.work.book.credited = 0 ∧
      (after .guardCloses s).work.press = .idle) ∧
    (let s := suspendedPress cased ⟨50, 20, false, false, false⟩
     cased.verdict = .good ∧ cased.pressed = false ∧ s.heat.claim = .none ∧ s.heat.holdOff = none ∧
      (after .guardCloses s).bus.txq = [⟨.go, 0⟩, ⟨.claim .book, 0⟩]) ∧
    (let s : State := { suspendedPress cased ⟨50, 20, false, false, false⟩ with heat.holdOff := some 5 }
     s.heat.holdOff ≠ none ∧ (after .guardCloses s).heat.pendingBook = true) := by decide

/-- Each output comes on somewhere. -/
theorem test_outputs_come_on :
    heatingPress.heater = true ∧ heatingPress.clamp = true ∧ heatingPress.workStop = true ∧
    heatingPress.conveyorRun = true ∧ heatingPress.exitHold = true ∧
    ({ station 2 .running with work.cycle := some ⟨.marry, true, 1, 9⟩ } : State).cycleStart = true ∧
    ({ station 2 .running with work.cycle := some ⟨.skip, true, 1, 9⟩ } : State).skipOutput = true ∧
    ({ station 2 .running with parts.high := true } : State).feederStop = true ∧
    ({ station 5 .running with work.divert := some 9 } : State).divertOutput = true ∧
    ({ heatingPress with heat.holders := [] } : State).heater = false := by decide

theorem test_hyp_HaltedStationsStandStill :
    (station 1 .halted).mem.station = .halted ∧ (station 1 .halted).busLawful ∧
    takenHalted .encoderCount = false ∧ takenHalted .go = true :=
  ⟨rfl, ⟨by decide, fun _ => by decide, by decide, trivial, by decide⟩, rfl, rfl⟩

theorem test_hyp_StepsKeepCapacities :
    tableState.withinCapacity ∧ ∃ t, step tableState = .next t :=
  ⟨by unfold State.withinCapacity; decide, _, rfl⟩

theorem test_hyp_StepsKeepBusLaws :
    (sends (station 1 .running) .go .go []).busLawful :=
  ⟨by decide, fun h => absurd (Or.inr rfl) h, by decide, rfl, by decide⟩

theorem test_hyp_StepsKeepQuietStates : joiner.quietLawful ∧ (station 1 .running).quietLawful :=
  ⟨⟨fun h => (by cases h), fun _ => by decide,
      fun _ => (by unfold ParamStore.joinable; decide +kernel)⟩,
    ⟨fun h => (by cases h), fun h => (by cases h),
      fun _ => (by unfold ParamStore.joinable; decide +kernel)⟩⟩

/-- A JACKET station that jackets a cased and pressed book, with another ENTERING. -/
def jacketing : State :=
  { withZone (station 4 .running) [zrec finished .atWork, zrec book .entering] with
    work.parts := .cycling, work.cycle := some ⟨.marry, true, 4, 9⟩ }

theorem test_hyp_StepsKeepRecordLaws : jacketing.recordsLawful := by
  refine ⟨?_, fun r h => (by cases h), fun e h => (by cases h), ⟨by decide, fun _ => ⟨rfl, rfl, rfl, fun _ => ⟨zrec finished .atWork,
    by decide⟩⟩⟩, fun _ => by unfold ParamStore.joinable; decide +kernel, ?_⟩
  · unfold BookRecord.lawful; decide
  · unfold State.zoneLawful mayPrecede; decide

end Sys2Proof.Tests
end

/-! ## Draining (O18)

Draining stands in the Zone Tracker. Each operation of the model has one lemma here: that it leaves the whole
Zone Tracker as it was (`_zt`), or, where it writes the lists, the eyes or the room, that it leaves draining as
it was (`_draining`). They follow the model's own order, so that each proof takes the branches of one
definition and rests on the lemmas of the operations that it calls. -/

namespace Sys2Proof.Machine

/-! ### Going on, and events taken under a condition -/

/-- Going on with what leaves the Zone Tracker leaves it. -/
@[simp] theorem andThen_zt {f : State → State} (s : State) (h : ∀ t, (f t).zt = t.zt) :
    (s.andThen f).zt = s.zt :=
  andThen_ind (P := fun t => t.zt = s.zt) s f rfl (h s)

/-- Going on with what leaves draining leaves it. -/
@[simp] theorem andThen_draining {f : State → State} (s : State)
    (h : ∀ t, (f t).zt.draining = t.zt.draining) : (s.andThen f).zt.draining = s.zt.draining :=
  andThen_ind (P := fun t => t.zt.draining = s.zt.draining) s f rfl (h s)

/-- A conditional event that leaves draining when taken leaves it. -/
@[simp] theorem when_draining {p : Prop} [Decidable p] {f : State → State} (s : State)
    (h : ∀ t, (f t).zt.draining = t.zt.draining) : (s.when p f).zt.draining = s.zt.draining :=
  when_keeps (P := fun t => t.zt.draining = s.zt.draining) s p f rfl fun _ => h s

/-- An edge leaves draining where its named and its opposite edge do. -/
@[simp] theorem onEdge_draining {e : InputEdge} {f g : State → State} (s : State)
    (hf : ∀ t, (f t).zt.draining = t.zt.draining) (hg : ∀ t, (g t).zt.draining = t.zt.draining) :
    (s.onEdge e f g).zt.draining = s.zt.draining :=
  onEdge_keeps (P := fun t => t.zt.draining = s.zt.draining) e f g s rfl (hf s) (hg s)

/-- A good frame leaves draining where its notice's effect does. -/
@[simp] theorem receive_draining {p : Pos} {k : NoticeKind} {l : List Byte} {f : State → State}
    (s : State) (h : ∀ t, (f t).zt.draining = t.zt.draining) :
    (s.receive p k l f).zt.draining = s.zt.draining := by
  apply receive_keeps (P := fun t => t.zt.draining = s.zt.draining) <;> simp [h]

/-- A cycle's timeout leaves draining where its effect on every cycle does. -/
@[simp] theorem cycleLimit_draining {k : CycleKind} {f : Cycle → State → State} (s : State)
    (h : ∀ c t, (f c t).zt.draining = t.zt.draining) :
    (s.cycleLimit k f).zt.draining = s.zt.draining := by
  unfold State.cycleLimit
  split
  · split
    · exact h _ s
    · rfl
  · rfl

/-! ### Stop reasons, the stop set and marks -/

@[simp] theorem addGuard_zt (s : State) : s.addGuard.zt = s.zt := setOwnStop_zt _ s
@[simp] theorem removeGuard_zt (s : State) : s.removeGuard.zt = s.zt := setOwnStop_zt _ s
@[simp] theorem addCommand_zt (s : State) : s.addCommand.zt = s.zt := setOwnStop_zt _ s
@[simp] theorem addCycleFault_zt (s : State) : s.addCycleFault.zt = s.zt := setOwnStop_zt _ s
@[simp] theorem addDivertFail_zt (s : State) : s.addDivertFail.zt = s.zt := setOwnStop_zt _ s
@[simp] theorem addMagOverrun_zt (s : State) : s.addMagOverrun.zt = s.zt := setOwnStop_zt _ s
@[simp] theorem removeMagOverrun_zt (s : State) : s.removeMagOverrun.zt = s.zt := setOwnStop_zt _ s
@[simp] theorem removeByGo_zt (s : State) : s.removeByGo.zt = s.zt := setOwnStop_zt _ s
@[simp] theorem setStopEntry_zt (p : Pos) (r : Reasons) (s : State) : (s.setStopEntry p r).zt = s.zt :=
  setStops_zt _ p s
@[simp] theorem onAtWork_draining (f : ZoneRecord → ZoneRecord) (s : State) :
    (s.onAtWork f).zt.draining = s.zt.draining := rfl
@[simp] theorem markAtWork_draining (k : MarkKind) (s : State) :
    (s.markAtWork k).zt.draining = s.zt.draining := rfl

/-! ### The Zone Tracker's operations -/

@[simp] theorem depart_draining (k : JournalKind) (d : Detail) (b : BookRecord) (s : State) :
    (s.depart k d b).zt.draining = s.zt.draining := by
  unfold State.depart; simp
@[simp] theorem drop_zt (k : JournalKind) (d : Detail) (b : BookRecord) (s : State) :
    (s.drop k d b).zt = s.zt := by
  unfold State.drop; simp
@[simp] theorem arrivalUnknown_zt (s : State) : s.arrivalUnknown.zt = s.zt := rfl
@[simp] theorem oldestUnknown_draining (s : State) : s.oldestUnknown.zt.draining = s.zt.draining := rfl
@[simp] theorem enterZone_draining (z : ZoneRecord) (s : State) :
    (s.enterZone z).zt.draining = s.zt.draining := rfl
@[simp] theorem lengthFault_zt (tag : W16) (mm : Nat) (s : State) : (s.lengthFault tag mm).zt = s.zt := rfl
@[simp] theorem markWorked_draining (s : State) : s.markWorked.zt.draining = s.zt.draining := rfl
@[simp] theorem openTimeFault_zt (tag : W16) (s : State) : (s.openTimeFault tag).zt = s.zt := rfl
@[simp] theorem noteTaking_zt (b : BookRecord) (s : State) : (s.noteTaking b).zt = s.zt := by
  unfold State.noteTaking; split <;> rfl
@[simp] theorem adoptInto_draining (z : ZoneRecord) (b : BookRecord) (s : State) :
    (s.adoptInto z b).zt.draining = s.zt.draining := by
  unfold State.adoptInto; dsimp only; split <;> simp
@[simp] theorem placeIncoming_draining (b : BookRecord) (s : State) :
    (s.placeIncoming b).zt.draining = s.zt.draining := by
  unfold State.placeIncoming; simp

/-! ### GATE work -/

@[simp] theorem beginDivert_zt (s : State) : s.beginDivert.zt = s.zt := rfl
@[simp] theorem judgeGate_draining (z : ZoneRecord) (s : State) :
    (s.judgeGate z).zt.draining = s.zt.draining := by
  unfold State.judgeGate; split_ifs <;> rfl
@[simp] theorem removeAtWork_draining (s : State) : s.removeAtWork.zt.draining = s.zt.draining := rfl
@[simp] theorem confirmDivert_draining (z : ZoneRecord) (s : State) :
    (s.confirmDivert z).zt.draining = s.zt.draining := by
  unfold State.confirmDivert; simp
@[simp] theorem failDivert_draining (s : State) : s.failDivert.zt.draining = s.zt.draining := by
  unfold State.failDivert
  dsimp only
  rw [andThen_zt _ (by intro t; rfl)]
  simp

/-! ### The magazine and the work at CASE and JACKET -/

@[simp] theorem judgeThresholds_zt (s : State) : s.judgeThresholds.zt = s.zt := by
  unfold State.judgeThresholds; dsimp only; split_ifs <;> rfl
@[simp] theorem takeHead_zt (rest : List PartEntry) (s : State) : (s.takeHead rest).zt = s.zt := by
  unfold State.takeHead; simp
@[simp] theorem startSkip_zt (owned : Bool) (s : State) : (s.startSkip owned).zt = s.zt := by
  unfold State.startSkip; split <;> simp
@[simp] theorem marry_draining (n : Byte) (s : State) : (s.marry n).zt.draining = s.zt.draining := rfl
@[simp] theorem startMarry_draining (s : State) : s.startMarry.zt.draining = s.zt.draining := by
  unfold State.startMarry; split <;> simp
@[simp] theorem judgeHousekeeping_zt (s : State) : s.judgeHousekeeping.zt = s.zt := by
  unfold State.judgeHousekeeping; split <;> simp
@[simp] theorem partsDone_draining (s : State) : s.partsDone.zt.draining = s.zt.draining := by
  unfold State.partsDone; simp
@[simp] theorem noPart_draining (s : State) : s.noPart.zt.draining = s.zt.draining := by
  unfold State.noPart; simp
@[simp] theorem match?_draining (b : BookRecord) (s : State) :
    (s.match? b).zt.draining = s.zt.draining := by
  unfold State.match?
  split
  · simp
  · split <;> simp
@[simp] theorem waitOrMatch_draining (b : BookRecord) (s : State) :
    (s.waitOrMatch b).zt.draining = s.zt.draining := by
  unfold State.waitOrMatch; split <;> simp
@[simp] theorem judgeCase_draining (z : ZoneRecord) (s : State) :
    (s.judgeCase z).zt.draining = s.zt.draining := by
  unfold State.judgeCase; split_ifs <;> simp
@[simp] theorem judgeJacket_draining (z : ZoneRecord) (s : State) :
    (s.judgeJacket z).zt.draining = s.zt.draining := by
  unfold State.judgeJacket; split_ifs <;> simp
@[simp] theorem afterWait_draining (s : State) : s.afterWait.zt.draining = s.zt.draining := by
  unfold State.afterWait
  split
  · split
    · rfl
    · split
      · rfl
      · split <;> simp
  · simp
@[simp] theorem afterMatchSkip_draining (s : State) : s.afterMatchSkip.zt.draining = s.zt.draining := by
  unfold State.afterMatchSkip
  split
  · rfl
  · split
    · simp
    · split
      · simp
      · split <;> simp
@[simp] theorem cycleEnds_draining (c : Cycle) (s : State) :
    (s.cycleEnds c).zt.draining = s.zt.draining := by
  unfold State.cycleEnds; dsimp only; split <;> simp
@[simp] theorem marryTimesOut_draining (c : Cycle) (s : State) :
    (s.marryTimesOut c).zt.draining = s.zt.draining := by
  unfold State.marryTimesOut; dsimp only; split <;> simp
@[simp] theorem skipTimesOut_draining (c : Cycle) (s : State) :
    (s.skipTimesOut c).zt.draining = s.zt.draining := by
  unfold State.skipTimesOut; cases c.owned <;> simp
@[simp] theorem fillWaiting_zt (i : PartId) (s : State) : (s.fillWaiting i).zt = s.zt := rfl
@[simp] theorem blankWaiting_zt (s : State) : s.blankWaiting.zt = s.zt := by
  unfold State.blankWaiting; split <;> rfl
@[simp] theorem appendPart_zt (k : Option Key) (f : Option FormatIx) (w : Bool) (s : State) :
    (s.appendPart k f w).zt = s.zt := by
  unfold State.appendPart; simp
@[simp] theorem magazineOverrun_zt (s : State) : s.magazineOverrun.zt = s.zt := by
  unfold State.magazineOverrun; dsimp only; split <;> simp
@[simp] theorem partArrives_zt (s : State) : s.partArrives.zt = s.zt := by
  unfold State.partArrives
  split
  · simp
  · split <;> simp
@[simp] theorem addVoid_zt (v : VoidEntry) (s : State) : (s.addVoid v).zt = s.zt := by
  unfold State.addVoid; dsimp only; split <;> simp

/-! ### INFEED work and the reader -/

@[simp] theorem takeId_draining (i : PartId) (s : State) : (s.takeId i).zt.draining = s.zt.draining := by
  unfold State.takeId; dsimp only; split <;> rfl
@[simp] theorem judgeInfeed_draining (z : ZoneRecord) (s : State) :
    (s.judgeInfeed z).zt.draining = s.zt.draining := by
  unfold State.judgeInfeed
  split <;> split <;> simp
@[simp] theorem deliverId_draining (i : PartId) (s : State) :
    (s.deliverId i).zt.draining = s.zt.draining := by
  unfold State.deliverId
  split
  · split <;> simp
  · dsimp only; split <;> rfl
@[simp] theorem readError_zt (s : State) : s.readError.zt = s.zt := rfl
@[simp] theorem readByte_draining (r : ReaderByte) (s : State) :
    (s.readByte r).zt.draining = s.zt.draining := by
  unfold State.readByte
  split
  · split
    · split <;> rfl
    · split
      · rfl
      · split
        · rfl
        · split <;> simp
  · rfl
/-- Bytes on the reader line, one after another, leave draining. -/
@[simp] theorem readBytes_draining (l : List ReaderByte) (s : State) :
    (l.foldl State.readByte s).zt.draining = s.zt.draining := by
  induction l generalizing s with
  | nil => rfl
  | cons r rest ih => rw [List.foldl_cons, ih, readByte_draining]
@[simp] theorem windowExpires_draining (s : State) : s.windowExpires.zt.draining = s.zt.draining := by
  unfold State.windowExpires; dsimp only; split <;> simp

/-! ### The own claim and bar warmth -/

@[simp] theorem queueClaim_zt (c : ClaimClass) (u : ClaimUse) (s : State) :
    (s.queueClaim c u).zt = s.zt := by
  unfold State.queueClaim; simp
@[simp] theorem tryPending_zt (s : State) : s.tryPending.zt = s.zt := by
  unfold State.tryPending; split <;> simp
@[simp] theorem judgeKeepwarm_zt (s : State) : s.judgeKeepwarm.zt = s.zt := by
  unfold State.judgeKeepwarm; split <;> simp
@[simp] theorem claimsOpen_zt (s : State) : s.claimsOpen.zt = s.zt := by
  unfold State.claimsOpen; simp
@[simp] theorem askBook_zt (s : State) : s.askBook.zt = s.zt := by
  unfold State.askBook; split_ifs <;> simp
@[simp] theorem giveUp_zt (s : State) : s.giveUp.zt = s.zt := by
  unfold State.giveUp; split <;> simp
@[simp] theorem warmBar_zt (s : State) : s.warmBar.zt = s.zt := rfl
@[simp] theorem stopWarmTimer_zt (s : State) : s.stopWarmTimer.zt = s.zt := rfl
@[simp] theorem claimNone_zt (s : State) : s.claimNone.zt = s.zt := by
  unfold State.claimNone; simp
@[simp] theorem ownReleased_zt (s : State) : s.ownReleased.zt = s.zt := by
  unfold State.ownReleased; simp
@[simp] theorem endHoldOff_zt (s : State) : s.endHoldOff.zt = s.zt := by
  unfold State.endHoldOff; simp
@[simp] theorem endBurst_zt (s : State) : s.endBurst.zt = s.zt := by
  unfold State.endBurst; simp

/-! ### Press work -/

@[simp] theorem finishPress_draining (s : State) : s.finishPress.zt.draining = s.zt.draining := by
  unfold State.finishPress; simp
@[simp] theorem passPress_draining (s : State) : s.passPress.zt.draining = s.zt.draining := by
  unfold State.passPress; simp
@[simp] theorem giveUpBook_zt (s : State) : s.giveUpBook.zt = s.zt := by
  unfold State.giveUpBook; simp
@[simp] theorem leaveWait_draining (s : State) : s.leaveWait.zt.draining = s.zt.draining := by
  unfold State.leaveWait; simp
@[simp] theorem afterMark_draining (s : State) : s.afterMark.zt.draining = s.zt.draining := by
  unfold State.afterMark; split <;> simp
@[simp] theorem enterSet_draining (s : State) : s.enterSet.zt.draining = s.zt.draining := by
  unfold State.enterSet
  split
  · rfl
  · dsimp only; split <;> simp
@[simp] theorem beginHeat_draining (n : Nat) (s : State) : (s.beginHeat n).zt.draining = s.zt.draining := rfl
@[simp] theorem grantToBook_draining (s : State) : s.grantToBook.zt.draining = s.zt.draining := by
  unfold State.grantToBook
  split
  · split
    · rw [andThen_zt _ (by intro t; rfl), giveUp_zt]
    · rfl
  · rfl
@[simp] theorem grantToKeepwarm_zt (s : State) : s.grantToKeepwarm.zt = s.zt := by
  unfold State.grantToKeepwarm
  split
  · rw [andThen_zt _ (by intro t; rfl), giveUp_zt]
  · rfl
@[simp] theorem grantEvent_draining (s : State) : s.grantEvent.zt.draining = s.zt.draining := by
  unfold State.grantEvent
  split
  · dsimp only; split <;> simp
  · dsimp only; split <;> simp
  all_goals rfl
@[simp] theorem takeBook_draining (b : BookRecord) (f : FormatIx) (s : State) :
    (s.takeBook b f).zt.draining = s.zt.draining := by
  unfold State.takeBook; dsimp only; split <;> simp
@[simp] theorem judgePress_draining (z : ZoneRecord) (s : State) :
    (s.judgePress z).zt.draining = s.zt.draining := by
  unfold State.judgePress
  dsimp only
  split_ifs
  · simp
  · simp
  · simp
  · split <;> simp
@[simp] theorem endHeat_draining (n : Nat) (s : State) : (s.endHeat n).zt.draining = s.zt.draining := by
  unfold State.endHeat; simp
@[simp] theorem suspendExpired_draining (s : State) : s.suspendExpired.zt.draining = s.zt.draining := rfl
@[simp] theorem suspend_draining (h : HeatPhase) (s : State) :
    (s.suspend h).zt.draining = s.zt.draining := by
  unfold State.suspend
  dsimp only
  rw [andThen_draining _ (by intro t; split <;> rfl), endHeat_draining]
@[simp] theorem pressGuardOpens_draining (s : State) : s.pressGuardOpens.zt.draining = s.zt.draining := by
  unfold State.pressGuardOpens; split <;> split <;> simp
@[simp] theorem closeSuspended_draining (z : ZoneRecord) (s : State) :
    (s.closeSuspended z).zt.draining = s.zt.draining := by
  unfold State.closeSuspended; dsimp only; split_ifs <;> simp
@[simp] theorem pressGuardCloses_draining (s : State) : s.pressGuardCloses.zt.draining = s.zt.draining := by
  unfold State.pressGuardCloses
  split
  · split <;> simp
  · split <;> simp
  all_goals simp

/-! ### The role's work -/

@[simp] theorem beginWork_draining (s : State) : s.beginWork.zt.draining = s.zt.draining := by
  unfold State.beginWork; split <;> simp
@[simp] theorem abandonWork_zt (s : State) : s.abandonWork.zt = s.zt := by
  unfold State.abandonWork; split <;> rfl

/-! ### The conveyor -/

@[simp] theorem eyeOrder_zt (n : Nat) (s : State) : (s.eyeOrder n).zt = s.zt := rfl
@[simp] theorem count_draining (s : State) : s.count.zt.draining = s.zt.draining := rfl
@[simp] theorem overrunNoRecord_zt (s : State) : s.overrunNoRecord.zt = s.zt := rfl
@[simp] theorem entryInfeed_draining (s : State) : s.entryInfeed.zt.draining = s.zt.draining := by
  unfold State.entryInfeed; split <;> simp
@[simp] theorem entryOverrun_draining (s : State) : s.entryOverrun.zt.draining = s.zt.draining := by
  unfold State.entryOverrun; split <;> simp
@[simp] theorem provisional_draining (s : State) : s.provisional.zt.draining = s.zt.draining := by
  unfold State.provisional; dsimp only; split <;> simp
@[simp] theorem entryOther_draining (s : State) : s.entryOther.zt.draining = s.zt.draining := by
  unfold State.entryOther
  split
  · simp
  · split <;> simp
@[simp] theorem entryLeading_draining (s : State) : s.entryLeading.zt.draining = s.zt.draining := by
  unfold State.entryLeading; dsimp only; split <;> simp
@[simp] theorem storeLength_draining (z : ZoneRecord) (s : State) :
    (s.storeLength z).zt.draining = s.zt.draining := by
  unfold State.storeLength; dsimp only; split_ifs <;> simp
@[simp] theorem entryTrailing_draining (s : State) : s.entryTrailing.zt.draining = s.zt.draining := by
  unfold State.entryTrailing; dsimp only; split <;> simp
@[simp] theorem goMissing_draining (s : State) : s.goMissing.zt.draining = s.zt.draining := by
  unfold State.goMissing; split <;> simp
@[simp] theorem placeAtWork_draining (z : ZoneRecord) (s : State) :
    (s.placeAtWork z).zt.draining = s.zt.draining := by
  unfold State.placeAtWork; dsimp only; rw [beginWork_draining]; split <;> rfl
@[simp] theorem unexpected_draining (s : State) : s.unexpected.zt.draining = s.zt.draining := by
  unfold State.unexpected; split <;> simp
@[simp] theorem workLeading_draining (s : State) : s.workLeading.zt.draining = s.zt.draining := by
  unfold State.workLeading
  dsimp only
  split
  · rfl
  · split <;> simp
@[simp] theorem retire_draining (z : ZoneRecord) (rest : List ZoneRecord) (s : State) :
    (s.retire z rest).zt.draining = s.zt.draining := by
  unfold State.retire; simp
@[simp] theorem handOn_draining (z : ZoneRecord) (rest : List ZoneRecord) (s : State) :
    (s.handOn z rest).zt.draining = s.zt.draining := by
  unfold State.handOn; dsimp only; split <;> simp
@[simp] theorem exitTrailing_draining (s : State) : s.exitTrailing.zt.draining = s.zt.draining := by
  unfold State.exitTrailing
  dsimp only
  split
  · rfl
  · split_ifs <;> simp
@[simp] theorem fourthClear_draining (s : State) : s.fourthClear.zt.draining = s.zt.draining := rfl
@[simp] theorem confirmEdge_draining (s : State) : s.confirmEdge.zt.draining = s.zt.draining := by
  unfold State.confirmEdge; split <;> simp
@[simp] theorem doneEdge_draining (s : State) : s.doneEdge.zt.draining = s.zt.draining := by
  unfold State.doneEdge; dsimp only; split <;> simp

/-! ### Frames -/

@[simp] theorem beginFrame_draining (place : Nat) (n : Notice) (r : Option Rival) (s : State) :
    (s.beginFrame place n r).zt.draining = s.zt.draining := by
  unfold State.beginFrame; dsimp only; split <;> split <;> rfl
@[simp] theorem startFrame_draining (r : Option Rival) (s : State) :
    (s.startFrame r).zt.draining = s.zt.draining := by
  unfold State.startFrame
  split
  · simp
  · split <;> rfl
@[simp] theorem failSend_zt (d : Drive) (place : Nat) (e : TxEntry) (s : State) :
    (s.failSend d place e).zt = s.zt := by
  unfold State.failSend; dsimp only; split <;> simp
@[simp] theorem failFrame_zt (d : Drive) (place : Nat) (s : State) :
    (s.failFrame d place).zt = s.zt := by
  unfold State.failFrame; split <;> simp
@[simp] theorem badFrame_zt (n : Nat) (p : Pos) (s : State) : (s.badFrame n p).zt = s.zt := rfl

/-! ### The share table -/

@[simp] theorem applyGrants_draining (g : Granted) (s : State) :
    (s.applyGrants g).zt.draining = s.zt.draining := by
  unfold State.applyGrants; dsimp only; split <;> simp
@[simp] theorem releaseHolder_draining (p : Pos) (s : State) :
    (s.releaseHolder p).zt.draining = s.zt.draining := by
  unfold State.releaseHolder; simp
@[simp] theorem removeShares_draining (p : Pos) (s : State) :
    (s.removeShares p).zt.draining = s.zt.draining := by
  unfold State.removeShares; dsimp only; split <;> simp
@[simp] theorem peerClaimed_zt (s : State) : s.peerClaimed.zt = s.zt := by
  unfold State.peerClaimed; split <;> simp
@[simp] theorem ownClaimFound_zt (s : State) : s.ownClaimFound.zt = s.zt := by
  unfold State.ownClaimFound; split <;> rfl
@[simp] theorem ownClaimWaits_zt (s : State) : s.ownClaimWaits.zt = s.zt := by
  unfold State.ownClaimWaits; split <;> rfl
@[simp] theorem protocol_zt (p : Pos) (k : NoticeKind) (s : State) : (s.protocol p k).zt = s.zt := rfl
@[simp] theorem applyClaim_draining (p : Pos) (c : ClaimClass) (s : State) :
    (s.applyClaim p c).zt.draining = s.zt.draining := by
  unfold State.applyClaim; dsimp only; split_ifs <;> simp
@[simp] theorem ownReturn_zt (p : Pos) (s : State) : (s.ownReturn p).zt = s.zt := by
  unfold State.ownReturn; split <;> simp
@[simp] theorem applyRelease_draining (p : Pos) (s : State) :
    (s.applyRelease p).zt.draining = s.zt.draining := by
  unfold State.applyRelease; split <;> simp
@[simp] theorem applyWithdraw_draining (p : Pos) (s : State) :
    (s.applyWithdraw p).zt.draining = s.zt.draining := by
  unfold State.applyWithdraw; dsimp only; split_ifs <;> simp
@[simp] theorem compareShares_zt (p : Pos) (l : List Pos) (w : List WaitEntry) (s : State) :
    (s.compareShares p l w).zt = s.zt := by
  unfold State.compareShares; split <;> rfl
@[simp] theorem adoptShares_zt (l : List Pos) (w : List WaitEntry) (s : State) :
    (s.adoptShares l w).zt = s.zt := by
  unfold State.adoptShares
  dsimp only
  split
  · rw [andThen_zt _ (by intro t; rfl), queue_zt]
  · rfl

/-! ### The notices -/

@[simp] theorem removeAbsent_zt (p : Pos) (s : State) : (s.removeAbsent p).zt = s.zt := rfl
@[simp] theorem restartSilence_zt (p : Pos) (s : State) : (s.restartSilence p).zt = s.zt := by
  unfold State.restartSilence; split <;> rfl
@[simp] theorem heard_zt (p : Pos) (s : State) : (s.heard p).zt = s.zt := by
  unfold State.heard; simp
/-- A class-1 notice leaves draining where what the Heat Share Unit makes of it does. -/
@[simp] theorem classOne_draining {p : Pos} {f : State → State} (s : State)
    (h : ∀ t, (f t).zt.draining = t.zt.draining) : (s.classOne p f).zt.draining = s.zt.draining := by
  unfold State.classOne; dsimp only; split <;> simp [h]
@[simp] theorem leaveShares_draining (p : Pos) (s : State) :
    (s.leaveShares p).zt.draining = s.zt.draining := by
  unfold State.leaveShares; split <;> simp
@[simp] theorem setRoomHeard_draining (p : Pos) (o : Bool) (s : State) :
    (s.setRoomHeard p o).zt.draining = s.zt.draining := rfl
@[simp] theorem setMember_zt (p : Pos) (m : Member) (s : State) : (s.setMember p m).zt = s.zt := rfl
@[simp] theorem stopEffect_zt (p : Pos) (r : Byte) (s : State) : (s.stopEffect p r).zt = s.zt := by
  unfold State.stopEffect; simp
@[simp] theorem goEffect_zt (p : Pos) (s : State) : (s.goEffect p).zt = s.zt := by
  unfold State.goEffect; simp
@[simp] theorem declareAbsent_draining (p : Pos) (s : State) :
    (s.declareAbsent p).zt.draining = s.zt.draining := by
  unfold State.declareAbsent; dsimp only; split <;> simp
@[simp] theorem absentEffect_draining (p : Pos) (q : Byte) (s : State) :
    (s.absentEffect p q).zt.draining = s.zt.draining := by
  unfold State.absentEffect; dsimp only; split <;> simp
@[simp] theorem ownHandover_zt (p : Pos) (b : BookRecord) (s : State) : (s.ownHandover p b).zt = s.zt := by
  unfold State.ownHandover; dsimp only; split <;> simp
@[simp] theorem takeHandover_draining (b : BookRecord) (s : State) :
    (s.takeHandover b).zt.draining = s.zt.draining := by
  unfold State.takeHandover
  split
  · simp
  · split
    · simp
    · split <;> simp
@[simp] theorem handoverEffect_draining (p : Pos) (t : Byte) (i : RecordImage) (s : State) :
    (s.handoverEffect p t i).zt.draining = s.zt.draining := by
  unfold State.handoverEffect; dsimp only; split_ifs <;> simp
@[simp] theorem roomEffect_draining (p : Pos) (b : Byte) (s : State) :
    (s.roomEffect p b).zt.draining = s.zt.draining := by
  unfold State.roomEffect; dsimp only; split <;> simp
@[simp] theorem voidEffect_zt (p : Pos) (k : Key) (f l : Byte) (s : State) :
    (s.voidEffect p k f l).zt = s.zt := by
  unfold State.voidEffect; dsimp only; split <;> simp
@[simp] theorem implicitAbsence_draining (p : Pos) (s : State) :
    (s.implicitAbsence p).zt.draining = s.zt.draining := by
  unfold State.implicitAbsence; simp
@[simp] theorem joinFinds_draining (p : Pos) (s : State) :
    (s.joinFinds p).zt.draining = s.zt.draining := by
  unfold State.joinFinds
  split
  · simp
  · simp
  all_goals split <;> rfl
@[simp] theorem startWindow_zt (p : Pos) (s : State) : (s.startWindow p).zt = s.zt := by
  unfold State.startWindow; split <;> rfl
@[simp] theorem joinEffect_draining (p : Pos) (r : Byte) (d : W16) (s : State) :
    (s.joinEffect p r d).zt.draining = s.zt.draining := by
  unfold State.joinEffect; split <;> simp
@[simp] theorem adoptStops_zt (p : Pos) (c : BeaconContent) (s : State) : (s.adoptStops p c).zt = s.zt := by
  unfold State.adoptStops; split <;> simp
@[simp] theorem adoptTable_zt (c : BeaconContent) (s : State) : (s.adoptTable c).zt = s.zt := by
  unfold State.adoptTable
  split
  · rfl
  · split <;> simp
@[simp] theorem compareTable_zt (p : Pos) (c : BeaconContent) (s : State) :
    (s.compareTable p c).zt = s.zt := by
  unfold State.compareTable
  split
  · rfl
  · split <;> simp
@[simp] theorem beaconTells_draining (p : Pos) (c : BeaconContent) (s : State) :
    (s.beaconTells p c).zt.draining = s.zt.draining := by
  unfold State.beaconTells; dsimp only; split <;> simp
@[simp] theorem beaconEffect_draining (p : Pos) (l : List Byte) (s : State) :
    (s.beaconEffect p l).zt.draining = s.zt.draining := by
  unfold State.beaconEffect; dsimp only; split_ifs <;> simp

/-! ### The station port -/

@[simp] theorem read_zt (c : PortRead) (n : Nat) (released : Bool) (s : State) :
    (s.read c n released).zt = s.zt := by
  rw [read_spec]
@[simp] theorem brokenRead_zt (l : List Byte) (n : Nat) (s : State) : (s.brokenRead l n).zt = s.zt := by
  unfold State.brokenRead; split <;> simp
@[simp] theorem purgeZone_draining (tag : W16) (z : ZoneRecord) (s : State) :
    (s.purgeZone tag z).zt.draining = s.zt.draining := by
  unfold State.purgeZone; dsimp only; split <;> simp
@[simp] theorem purgeIncoming_draining (tag : W16) (r : IncomingRecord) (s : State) :
    (s.purgeIncoming tag r).zt.draining = s.zt.draining := by
  unfold State.purgeIncoming; simp
@[simp] theorem clearMagazine_draining (s : State) : s.clearMagazine.zt.draining = s.zt.draining := by
  unfold State.clearMagazine; simp
@[simp] theorem acceptJoin_zt (s : State) : s.acceptJoin.zt = s.zt := by
  unfold State.acceptJoin; simp

/-! ### Timers -/

@[simp] theorem silenceExpires_zt (p : Pos) (s : State) : (s.silenceExpires p).zt = s.zt := by
  unfold State.silenceExpires; dsimp only; split <;> simp
@[simp] theorem enterRunning_draining (pins : InputPins) (s : State) :
    (s.enterRunning pins).zt.draining = s.zt.draining := by
  unfold State.enterRunning
  have guard : ∀ t : State, (if t.mem.guardOpen then t.addGuard else t).zt = t.zt := by
    intro t; split <;> simp
  simp [guard]
@[simp] theorem beaconExpires_zt (s : State) : s.beaconExpires.zt = s.zt := by
  unfold State.beaconExpires; dsimp only; split <;> simp
@[simp] theorem zoneTimeOut_draining (i : Nat) (z : ZoneRecord) (s : State) :
    (s.zoneTimeOut i z).zt.draining = s.zt.draining := by
  unfold State.zoneTimeOut; dsimp only; split <;> simp
@[simp] theorem incomingTimeOut_draining (i : Nat) (r : IncomingRecord) (s : State) :
    (s.incomingTimeOut i r).zt.draining = s.zt.draining := rfl
@[simp] theorem starve_draining (s : State) : s.starve.zt.draining = s.zt.draining := by
  unfold State.starve
  dsimp only
  rw [andThen_draining _ (by intro t; split <;> simp), giveUp_zt]
@[simp] theorem fallDue_zt (n : Nat) (s : State) : (s.fallDue n).zt = s.zt := by
  unfold State.fallDue; simp
@[simp] theorem goCold_zt (s : State) : s.goCold.zt = s.zt := by
  unfold State.goCold
  dsimp only
  split
  · rw [andThen_zt _ (by intro t; rfl), giveUp_zt]
  · rfl
@[simp] theorem noteHeated_zt (s : State) : s.noteHeated.zt = s.zt := by
  unfold State.noteHeated
  split
  · rfl
  · split <;> rfl
@[simp] theorem finishHeat_draining (h : HeatPhase) (s : State) :
    (s.finishHeat h).zt.draining = s.zt.draining := by
  unfold State.finishHeat; simp
@[simp] theorem guardOpened_draining (s : State) : s.guardOpened.zt.draining = s.zt.draining := by
  unfold State.guardOpened; simp
@[simp] theorem guardClosed_draining (s : State) : s.guardClosed.zt.draining = s.zt.draining := by
  unfold State.guardClosed; simp

/-! ### The part's own clock -/

@[simp] theorem passMs_draining (s : State) : s.passMs.zt.draining = s.zt.draining := by
  unfold State.passMs; dsimp only; split <;> rfl
@[simp] theorem raise_zt (c : Instr) (s : State) : (s.raise c).zt = s.zt := rfl
@[simp] theorem endQueuedTimes_zt (s : State) : s.endQueuedTimes.zt = s.zt := rfl
@[simp] theorem idle_draining (s : State) : s.idle.zt.draining = s.zt.draining := by
  unfold State.idle
  split
  · split <;> simp
  all_goals simp


/-! ### The commands -/

/-- Whatever next state a command answers, draining stands in it as it stood in `s`. -/
def leavesDraining (s : State) (r : Result) : Prop := ∀ t, r = .next t → t.zt.draining = s.zt.draining

/-- A command that answers one next state leaves draining exactly where that state has it as before. -/
theorem leavesDraining_next (s t : State) :
    leavesDraining s (.next t) ↔ t.zt.draining = s.zt.draining :=
  ⟨fun h => h t rfl, fun h _ e => Host.Outcome.next.inj e ▸ h⟩

/-- The shape of the read commands. -/
theorem leavesDraining_read (c : PortRead) (n : Nat) (released : Bool) (s : State) :
    leavesDraining s (.next (s.read c n released)) := by
  rw [leavesDraining_next, read_zt]

/-- The shape of the notices. -/
theorem leavesDraining_receive {p : Pos} {k : NoticeKind} {l : List Byte} {f : State → State}
    (s : State) (h : ∀ t, (f t).zt.draining = t.zt.draining) :
    leavesDraining s (.next (s.receive p k l f)) :=
  (leavesDraining_next s _).mpr (receive_draining s h)

/-- The shape of the timers' expiries. -/
theorem leavesDraining_when {p : Prop} [Decidable p] {f : State → State} (s : State)
    (h : ∀ t, (f t).zt.draining = t.zt.draining) : leavesDraining s (.next (s.when p f)) :=
  (leavesDraining_next s _).mpr (when_draining s h)

/-- The shape of an event that is taken under a condition on the state. -/
theorem leavesDraining_if {p : Prop} [Decidable p] {s t : State} (h : t.zt.draining = s.zt.draining) :
    leavesDraining s (.next (if p then t else s)) := by
  rw [leavesDraining_next]
  split
  · exact h
  · rfl

/-- The shape of the edges that every role takes. -/
theorem leavesDraining_onEdge {e : InputEdge} {f g : State → State} (s : State)
    (hf : ∀ t, (f t).zt.draining = t.zt.draining) (hg : ∀ t, (g t).zt.draining = t.zt.draining) :
    leavesDraining s (.next (s.onEdge e f g)) :=
  (leavesDraining_next s _).mpr (onEdge_draining s hf hg)

theorem execWatch_draining (b : Byte) (s : State) (released : Bool) :
    leavesDraining s (execWatch b s released) := by
  unfold execWatch; dsimp only; rw [leavesDraining_next]; split_ifs <;> rfl
theorem execWriteEnables_draining (l : BitVec 24) (g : Byte) (s : State) :
    leavesDraining s (execWriteEnables l g s) := by
  unfold execWriteEnables; rw [leavesDraining_next]; rfl
theorem execWriteParameter_draining (id : Byte) (v : W16) (s : State) :
    leavesDraining s (execWriteParameter id v s) := by
  unfold execWriteParameter
  rw [leavesDraining_next]
  split
  · rfl
  · split <;> rfl
theorem execWriteFormat_draining (i : Byte) (e : FormatEntry) (s : State) :
    leavesDraining s (execWriteFormat i e s) := by
  unfold execWriteFormat; rw [leavesDraining_next]; split_ifs <;> rfl
theorem execJoin_draining (s : State) : leavesDraining s (execJoin s) := by
  unfold execJoin
  rw [leavesDraining_next]
  split
  · rfl
  · split <;> simp
theorem execMark_draining (k : Byte) (s : State) : leavesDraining s (execMark k s) := by
  unfold execMark; rw [leavesDraining_next]; split_ifs <;> simp
theorem execPurge_draining (tag : W16) (s : State) : leavesDraining s (execPurge tag s) := by
  unfold execPurge
  rw [leavesDraining_next]
  split
  · rfl
  · split
    · split <;> simp
    · simp
    · rfl
theorem execMagazineClear_draining (s : State) : leavesDraining s (execMagazineClear s) := by
  unfold execMagazineClear; rw [leavesDraining_next]; split_ifs <;> simp
theorem execStop_draining (s : State) : leavesDraining s (execStop s) := by
  unfold execStop; rw [leavesDraining_next]; split <;> simp
theorem execGo_draining (s : State) : leavesDraining s (execGo s) := by
  unfold execGo; rw [leavesDraining_next]; split <;> simp
theorem execTransactionFrame_draining (l : List Byte) (n : Nat) (s : State) :
    leavesDraining s (execTransactionFrame l n s) := by
  unfold execTransactionFrame; rw [leavesDraining_next]; simp
theorem execFrameStart_draining (r : Option Rival) (s : State) (n : Nat) :
    leavesDraining s (execFrameStart r s n) := by
  unfold execFrameStart; rw [leavesDraining_next]; dsimp only; split_ifs <;> simp
theorem execReadbackMismatch_draining (s : State) : leavesDraining s (execReadbackMismatch s) := by
  unfold execReadbackMismatch; rw [leavesDraining_next]; split <;> simp
theorem execStructureError_draining (c : BreakCause) (s : State) :
    leavesDraining s (execStructureError c s) :=
  leavesDraining_if (by cases c <;> rfl)
theorem execFlaggedFrame_draining (c : FlagCause) (s : State) :
    leavesDraining s (execFlaggedFrame c s) := by
  unfold execFlaggedFrame
  rw [leavesDraining_next]
  split
  · rfl
  · split
    · rfl
    · simp
    all_goals cases c <;> rfl
theorem execBeacon_draining (p : Pos) (l : List Byte) (s : State) :
    leavesDraining s (execBeacon p l s) := by
  unfold execBeacon
  split
  · exact leavesDraining_receive s (beaconEffect_draining p l)
  · exact execFlaggedFrame_draining _ s
theorem execOpenTimeExpiry_draining (p : RecordPlace) (s : State) :
    leavesDraining s (execOpenTimeExpiry p s) := by
  unfold execOpenTimeExpiry
  rw [leavesDraining_next]
  split
  · split
    · exact when_draining s (zoneTimeOut_draining _ _)
    · rfl
  · split
    · exact when_draining s (incomingTimeOut_draining _ _)
    · rfl
theorem execKeepwarmDue_draining (s : State) : leavesDraining s (execKeepwarmDue s) := by
  unfold execKeepwarmDue; rw [leavesDraining_next]; split <;> simp
theorem execHeatPhaseEnd_draining (s : State) : leavesDraining s (execHeatPhaseEnd s) := by
  unfold execHeatPhaseEnd; rw [leavesDraining_next]; split <;> simp

/-- Every command but DRAIN and the three resets leaves draining as it stands: a reading of the dispatch, arm by
arm. -/
theorem exec_draining (c : Instr) (s : State) (hreset : ¬ isReset c) (hdrain : c ≠ .drain) :
    leavesDraining s (exec c s) := by
  cases c with
  | powerOn straps => exact absurd ⟨straps, .inl rfl⟩ hreset
  | resetPin straps => exact absurd ⟨straps, .inr (.inl rfl)⟩ hreset
  | reset straps => exact absurd ⟨straps, .inr (.inr rfl)⟩ hreset
  | drain => exact absurd rfl hdrain
  | status | readLatches | readJournal | readRecord | readMagazine =>
    exact leavesDraining_read _ _ _ s
  | watch b released => exact execWatch_draining b s released
  | writeEnables l g => exact execWriteEnables_draining l g s
  | writeParameter id v => exact execWriteParameter_draining id v s
  | writeFormat i e => exact execWriteFormat_draining i e s
  | join => exact execJoin_draining s
  | mark k => exact execMark_draining k s
  | purge tag => exact execPurge_draining tag s
  | magazineClear => exact execMagazineClear_draining s
  | stop => exact execStop_draining s
  | go => exact execGo_draining s
  | transactionFrame l n => exact execTransactionFrame_draining l n s
  | frameStart r n => exact execFrameStart_draining r s n
  | readbackMismatch => exact execReadbackMismatch_draining s
  | structureError cause => exact execStructureError_draining cause s
  | flaggedFrame cause => exact execFlaggedFrame_draining cause s
  | stopNotice | goNotice | absent | claim | release | withdraw | handover | room | void | joinNotice =>
    exact leavesDraining_receive s (by simp)
  | beacon p l => exact execBeacon_draining p l s
  | silenceTimerExpiry | joinWindowEnd | beaconTimerExpiry | readerGapTimeout | readWindowExpiry
  | holdOffExpiry | claimWaitLimit | warmTimerExpiry | burstEnd | setEnd | maxSuspendExpiry
  | guardOpens | guardCloses => exact leavesDraining_when s (by simp)
  | openTimeExpiry place => exact execOpenTimeExpiry_draining place s
  | keepwarmDue => exact execKeepwarmDue_draining s
  | heatPhaseEnd => exact execHeatPhaseEnd_draining s
  | idFrame l => exact (leavesDraining_next s _).mpr (readBytes_draining l s)
  | encoderCount => exact leavesDraining_if (count_draining s)
  | entryLeadingEdge => exact leavesDraining_if (entryLeading_draining s)
  | entryTrailingEdge => exact leavesDraining_if (entryTrailing_draining s)
  | adoptionDistanceExpiry => exact leavesDraining_if (oldestUnknown_draining s)
  | transitDistanceExpiry => exact leavesDraining_if (goMissing_draining s)
  | confirmDistanceExpiry => exact leavesDraining_if (failDivert_draining s)
  | workLeadingEdge | exitTrailingEdge => exact leavesDraining_onEdge s (by simp) (by simp)
  | feedEyeLeadingEdge | confirmEyeLeadingEdge | cycleDone =>
    exact leavesDraining_if (onEdge_draining s (by simp) (by simp))
  | cycleTimeout | skipTimeout =>
    exact (leavesDraining_next s _).mpr (cycleLimit_draining s (by simp))

/-! ### DRAIN, admit and the resets -/

/-- DRAIN at an INFEED station that is not HALTED sets draining (R16). -/
theorem execDrain_of_infeed {s : State} (hrole : s.role = some .infeed)
    (hstation : s.mem.station ≠ .halted) :
    execDrain s = .next (State.answer .accepted { s.openPort with zt.draining := true }) :=
  congrArg Host.Outcome.next (if_pos ⟨hrole, hstation⟩)

/-- DRAIN anywhere else is refused REFUSED_STATE (R16). -/
theorem execDrain_of_not_infeed {s : State} (h : ¬ (s.role = some .infeed ∧ s.mem.station ≠ .halted)) :
    execDrain s = .next (s.openPort.answer .refusedState) :=
  congrArg Host.Outcome.next (if_neg h)

/-- DRAIN does not clear draining (R16). -/
theorem execDrain_keeps_draining {s t : State} (h : execDrain s = .next t)
    (hs : s.zt.draining = true) : t.zt.draining = true := by
  by_cases hd : s.role = some .infeed ∧ s.mem.station ≠ .halted
  · obtain ⟨hrole, hstation⟩ := hd
    rw [execDrain_of_infeed hrole hstation] at h
    cases h
    rfl
  · rw [execDrain_of_not_infeed hd] at h
    cases h
    exact hs

/-- The line is running exactly while no position has an entry in the stop set (R94, R100). -/
theorem lineRunning_iff (s : State) :
    s.lineRunning = true ↔ ∀ p : Pos, s.mem.stopSet[p] = Reasons.empty := by
  unfold State.lineRunning stopSetEmpty Reasons.isEmpty
  simp [Fin.forall_iff]

/-- Admit is on exactly under its four conditions at an INFEED station (R16). -/
theorem admitOutput_iff (s : State) :
    s.admitOutput = true ↔ s.role = some .infeed ∧ s.mem.station = .running ∧
      (∀ p : Pos, s.mem.stopSet[p] = Reasons.empty) ∧ s.zt.roomOpen = true ∧
      s.zt.draining = false := by
  rw [← lineRunning_iff]
  unfold State.admitOutput State.runs
  simp only [Bool.and_eq_true, beq_iff_eq, Bool.not_eq_true']
  tauto

/-- A reset command answers the machine after its kind of reset (R53). -/
theorem exec_of_isReset {c : Instr} {s t : State} (hc : isReset c) (h : exec c s = .next t) :
    ∃ cause tag straps, t = s.afterReset cause tag straps := by
  obtain ⟨straps, rfl | rfl | rfl⟩ := hc
  all_goals cases h; exact ⟨_, _, straps, rfl⟩

/-- After a reset a station is in CONFIG, where admit is off (R16, R53). -/
theorem afterReset_admitOutput (cause : ResetCause) (tag : W16) (straps : Straps) (s : State) :
    (s.afterReset cause tag straps).admitOutput = false := rfl

/-- On an empty queue the step is the part's own clock. -/
theorem step_of_empty {s : State} (h : s.pending = []) : step s = .next s.idle := by
  unfold step; rw [h]

/-- Settles O18: draining is written by DRAIN and the resets alone, which a pass through every other command and
the part's own clock shows (`exec_draining`, `idle_draining`). -/
theorem drainHoldsUntilReset : Obligations.DrainHoldsUntilReset := by
  unfold Obligations.DrainHoldsUntilReset
  intro s
  refine ⟨fun hrole hstation => ⟨[], execDrain_of_infeed hrole hstation⟩,
    fun h => ⟨[], execDrain_of_not_infeed h⟩, admitOutput_iff s, ?_, ?_, ?_⟩
  · intro c t hc h
    obtain ⟨cause, tag, straps, rfl⟩ := exec_of_isReset hc h
    exact ⟨rfl, afterReset_admitOutput cause tag straps s⟩
  · intro c t hc h hs
    by_cases hd : c = .drain
    · subst hd
      exact execDrain_keeps_draining h hs
    · rw [exec_draining c s hc hd t h, hs]
  · intro t hp h
    rw [step_of_empty hp] at h
    cases h
    exact idle_draining s

end Sys2Proof.Machine

/-! ## Writing the configuration (O12)

WRITE PARAMETER and WRITE FORMAT come to three facts each: what they do while the configuration is unlocked, for
an operand that names something and for one that names nothing, and that they do nothing while it is locked. -/

namespace Sys2Proof.Machine

/-- The configuration is unlocked in CONFIG alone (R39). -/
theorem locked_eq_false_iff (s : State) : s.locked = false ↔ s.mem.station = .config := by
  simp [State.locked]

/-- Outside CONFIG the configuration is locked (R39). -/
theorem locked_eq_true_iff (s : State) : s.locked = true ↔ s.mem.station ≠ .config := by
  simp [State.locked]

/-! ### The Parameter Store -/

/-- The identifiers 1 to 8 name the line parameters in their order (R37). -/
theorem write_of_line {id : Byte} (k : Fin 8) (hk : id.toNat = k.val + 1) (v : W16) (p : ParamStore) :
    p.write id v = some { p with line := p.line.set k.val v } := by
  have hid : 1 ≤ id.toNat ∧ id.toNat ≤ 8 := by omega
  unfold ParamStore.write
  rw [dif_pos hid]
  simp only [hk, Nat.add_sub_cancel]

/-- The identifiers 32 to 51 name the station parameters in their order (R37). -/
theorem write_of_station {id : Byte} (k : Fin 20) (hk : id.toNat = k.val + 32) (v : W16)
    (p : ParamStore) : p.write id v = some { p with station := p.station.set k.val v } := by
  have hline : ¬ (1 ≤ id.toNat ∧ id.toNat ≤ 8) := by omega
  have hid : 32 ≤ id.toNat ∧ id.toNat ≤ 51 := by omega
  unfold ParamStore.write
  rw [dif_neg hline, dif_pos hid]
  simp only [hk, Nat.add_sub_cancel]

/-- Every other identifier names no parameter (R37). -/
theorem write_of_unnamed {id : Byte}
    (h : id = 0 ∨ (8 < id.toNat ∧ id.toNat < 32) ∨ 51 < id.toNat) (v : W16) (p : ParamStore) :
    p.write id v = none := by
  have hid : id.toNat = 0 ∨ (8 < id.toNat ∧ id.toNat < 32) ∨ 51 < id.toNat :=
    h.imp_left (congrArg BitVec.toNat)
  have hline : ¬ (1 ≤ id.toNat ∧ id.toNat ≤ 8) := by omega
  have hstation : ¬ (32 ≤ id.toNat ∧ id.toNat ≤ 51) := by omega
  unfold ParamStore.write
  rw [dif_neg hline, dif_neg hstation]

/-! ### Answers of the port -/

/-- A command that ends the open transaction, writes the Parameter Store and answers, changes nothing else. -/
theorem portAnswers_params (r : PortResult) (p : ParamStore) (s : State) :
    portAnswers (.next (State.answer r { s.openPort with params := p })) r { s with params := p } :=
  ⟨[], rfl⟩

/-- A command that ends the open transaction and answers changes nothing else. -/
theorem portAnswers_openPort (r : PortResult) (s : State) :
    portAnswers (.next (s.openPort.answer r)) r s :=
  portAnswers_params r s.params s

/-! ### WRITE PARAMETER -/

/-- In CONFIG an identifier that names a parameter stores the value, whatever it is (R37). -/
theorem writeParameter_of_named {id : Byte} {v : W16} {s : State} {p : ParamStore}
    (hs : s.mem.station = .config) (hp : s.params.write id v = some p) :
    portAnswers (exec (.writeParameter id v) s) .accepted { s with params := p } := by
  have hexec : exec (.writeParameter id v) s
      = .next (State.answer .accepted { s.openPort with params := p }) := by
    show execWriteParameter id v s = _
    simp [execWriteParameter, (locked_eq_false_iff s).mpr hs, hp]
  rw [hexec]
  exact portAnswers_params .accepted p s

/-- In CONFIG an identifier that names no parameter is refused REFUSED_RANGE (R37). -/
theorem writeParameter_of_unnamed {id : Byte} {v : W16} {s : State}
    (hs : s.mem.station = .config) (hp : s.params.write id v = none) :
    portAnswers (exec (.writeParameter id v) s) .refusedRange s := by
  have hexec : exec (.writeParameter id v) s = .next (s.openPort.answer .refusedRange) := by
    show execWriteParameter id v s = _
    simp [execWriteParameter, (locked_eq_false_iff s).mpr hs, hp]
  rw [hexec]
  exact portAnswers_openPort .refusedRange s

/-- Outside CONFIG WRITE PARAMETER is refused REFUSED_STATE (R37). -/
theorem writeParameter_of_locked (id : Byte) (v : W16) {s : State} (hs : s.mem.station ≠ .config) :
    portAnswers (exec (.writeParameter id v) s) .refusedState s := by
  have hexec : exec (.writeParameter id v) s = .next (s.openPort.answer .refusedState) :=
    congrArg Host.Outcome.next (if_pos ((locked_eq_true_iff s).mpr hs))
  rw [hexec]
  exact portAnswers_openPort .refusedState s

/-! ### WRITE FORMAT -/

/-- In CONFIG an index up to 15 stores the entry, whatever it is (R10). -/
theorem writeFormat_of_index {index : Byte} (k : Fin 16) (hk : index.toNat = k.val) (e : FormatEntry)
    {s : State} (hs : s.mem.station = .config) :
    portAnswers (exec (.writeFormat index e) s) .accepted
      { s with params.formats := s.params.formats.set k.val e } := by
  have hexec : exec (.writeFormat index e) s = .next (State.answer .accepted
      { s.openPort with params.formats := s.params.formats.set k.val e }) := by
    show execWriteFormat index e s = _
    simp [execWriteFormat, (locked_eq_false_iff s).mpr hs, hk]
  rw [hexec]
  exact portAnswers_params .accepted { s.params with formats := s.params.formats.set k.val e } s

/-- In CONFIG an index above 15 is refused REFUSED_RANGE (R10). -/
theorem writeFormat_of_range {index : Byte} (h : 15 < index.toNat) (e : FormatEntry) {s : State}
    (hs : s.mem.station = .config) :
    portAnswers (exec (.writeFormat index e) s) .refusedRange s := by
  have hindex : ¬ index.toNat < 16 := by omega
  have hexec : exec (.writeFormat index e) s = .next (s.openPort.answer .refusedRange) := by
    show execWriteFormat index e s = _
    simp [execWriteFormat, (locked_eq_false_iff s).mpr hs, hindex]
  rw [hexec]
  exact portAnswers_openPort .refusedRange s

/-- Outside CONFIG WRITE FORMAT is refused REFUSED_STATE (R10). -/
theorem writeFormat_of_locked (index : Byte) (e : FormatEntry) {s : State}
    (hs : s.mem.station ≠ .config) :
    portAnswers (exec (.writeFormat index e) s) .refusedState s := by
  have hexec : exec (.writeFormat index e) s = .next (s.openPort.answer .refusedState) :=
    congrArg Host.Outcome.next (if_pos ((locked_eq_true_iff s).mpr hs))
  rw [hexec]
  exact portAnswers_openPort .refusedState s

/-! ### The defaults -/

/-- Every format entry after a reset is the entry of R10. -/
theorem afterReset_params_formats (cause : ResetCause) (tag : W16) (straps : Straps) (s : State)
    (i : Fin 16) : (s.afterReset cause tag straps).params.formats[i] = FormatEntry.atReset :=
  Vector.getElem_replicate i.isLt

/-- Settles O12: an identifier is sorted by `ParamStore.write` and an index by its range, each case of the two
commands has its lemma, and every reset command leaves the Parameter Store of R53 (`exec_of_isReset`). -/
theorem configWritesStoreUnchecked : Obligations.ConfigWritesStoreUnchecked := by
  unfold Obligations.ConfigWritesStoreUnchecked
  intro id index value entry s
  refine ⟨fun hs => ⟨?line, ?station, ?unnamed, ?format, ?range⟩, fun hs => ?locked, ?reset⟩
  case line => exact fun k hk => writeParameter_of_named hs (write_of_line k hk value s.params)
  case station => exact fun k hk => writeParameter_of_named hs (write_of_station k hk value s.params)
  case unnamed => exact fun h => writeParameter_of_unnamed hs (write_of_unnamed h value s.params)
  case format => exact fun k hk => writeFormat_of_index k hk entry hs
  case range => exact fun h => writeFormat_of_range h entry hs
  case locked => exact ⟨writeParameter_of_locked id value hs, writeFormat_of_locked index entry hs⟩
  case reset =>
    intro c t hc h
    obtain ⟨cause, tag, straps, rfl⟩ := exec_of_isReset hc h
    refine ⟨rfl, rfl, fun i => ?_⟩
    rw [afterReset_params_formats]
    exact ⟨by decide, rfl, rfl, rfl, rfl⟩

end Sys2Proof.Machine

/-! ## The own stop reasons (O17)

`setOwnStop` is what STOP and GO, the guard and the faults all come to. With a place free in the transmit queue
it has two cases, the set changes or it stands, and `ownStopSet` says what both leave. -/

namespace Sys2Proof.Machine

/-! ### The journal -/

/-- The entry appended is the newest, whether or not the oldest had to go (R190). -/
theorem append_journal_getLast? (k : JournalKind) (tag : W16) (d : Detail) (p : PortUnit) :
    (p.append k tag d).journal.getLast? = some ⟨k, tag, d, p.stamp⟩ := by
  unfold PortUnit.append
  dsimp only
  split
  · exact List.getLast?_concat
  · exact List.getLast?_concat

/-- A journal entry leaves the last command result (R180). -/
@[simp] theorem append_result (k : JournalKind) (tag : W16) (d : Detail) (p : PortUnit) :
    (p.append k tag d).result = p.result := by
  unfold PortUnit.append
  dsimp only
  split <;> rfl

/-! ### Changing the set -/

/-- With a place free, a change is stored and journalled and its notice joins the queue (R97). -/
theorem setOwnStop_of_change {r : Reasons} {s : State} (ha : s.isActive)
    (hroom : s.bus.txq.length < Config.txqCap) (hr : r ≠ s.mem.ownStop) :
    s.setOwnStop r = { s with
      mem.ownStop := r
      bus.txq := s.bus.txq ++ [⟨if r.isEmpty then .go else .stop r, 0⟩]
      port := s.port.append .ownStop 0 (.value r.toNat) } := by
  unfold State.setOwnStop
  rw [if_pos ⟨ha, hr⟩]
  exact queue_of_room _ _ ha hroom

/-- Changed or not, the set, the queue and the journal end as R97 has them. -/
theorem setOwnStop_ownStopSet (r : Reasons) {s : State} (ha : s.isActive)
    (hroom : s.bus.txq.length < Config.txqCap) : ownStopSet r s (s.setOwnStop r) := by
  by_cases hr : r = s.mem.ownStop
  · rw [setOwnStop_same r s hr]
    subst hr
    exact ⟨rfl, (if_pos rfl).symm, fun h => absurd rfl h, fun _ => rfl⟩
  · rw [setOwnStop_of_change ha hroom hr]
    exact ⟨rfl, (if_neg hr).symm, fun _ => append_journal_getLast? _ _ _ _, fun h => absurd h hr⟩

/-- With a place free, the last command result stands. -/
theorem setOwnStop_result (r : Reasons) {s : State} (ha : s.isActive)
    (hroom : s.bus.txq.length < Config.txqCap) :
    (s.setOwnStop r).port.result = s.port.result := by
  by_cases hr : r = s.mem.ownStop
  · rw [setOwnStop_same r s hr]
  · rw [setOwnStop_of_change ha hroom hr]
    exact append_result _ _ _ _

/-- With a place free, the Membership Unit, the Line Bus and the port are all that changes. -/
theorem setOwnStop_frame (r : Reasons) {s : State} (ha : s.isActive)
    (hroom : s.bus.txq.length < Config.txqCap) :
    s.setOwnStop r = { s with
      mem := (s.setOwnStop r).mem, bus := (s.setOwnStop r).bus, port := (s.setOwnStop r).port } := by
  by_cases hr : r = s.mem.ownStop
  · rw [setOwnStop_same r s hr]
  · rw [setOwnStop_of_change ha hroom hr]

/-! ### STOP and GO -/

/-- A station in CONFIG or HALTED is neither JOINING nor RUNNING. -/
theorem not_isActive_of_config_or_halted {s : State}
    (h : s.mem.station = .config ∨ s.mem.station = .halted) : ¬ s.isActive := by
  rcases h with h | h <;> simp [State.isActive, h]

/-- In JOINING and RUNNING STOP adds COMMAND, after its ACCEPTED (R98). -/
theorem exec_stop_of_active {s : State} (h : s.isActive) :
    exec .stop s = .next ((s.openPort.answer .accepted).setOwnStop
      { s.mem.ownStop with command := true }) :=
  congrArg Host.Outcome.next (if_pos h)

/-- In JOINING and RUNNING GO removes its three reasons, after its ACCEPTED (R98). -/
theorem exec_go_of_active {s : State} (h : s.isActive) :
    exec .go s = .next ((s.openPort.answer .accepted).setOwnStop
      { s.mem.ownStop with command := false, cycleFault := false, divertFail := false }) :=
  congrArg Host.Outcome.next (if_pos h)

/-- Elsewhere STOP is refused REFUSED_STATE (R98). -/
theorem exec_stop_of_not_active {s : State} (h : ¬ s.isActive) :
    exec .stop s = .next (s.openPort.answer .refusedState) :=
  congrArg Host.Outcome.next (if_neg h)

/-- Elsewhere GO is refused REFUSED_STATE (R98). -/
theorem exec_go_of_not_active {s : State} (h : ¬ s.isActive) :
    exec .go s = .next (s.openPort.answer .refusedState) :=
  congrArg Host.Outcome.next (if_neg h)

/-- The state after ACCEPTED and the own stop reasons `r`: it ends with that answer, the set, its journal entry
and its notice, and the rest is as it was. -/
theorem accepted_setOwnStop (r : Reasons) {s : State} (ha : s.isActive)
    (hroom : s.bus.txq.length < Config.txqCap) :
    let t := (s.openPort.answer .accepted).setOwnStop r
    t.port.result = .accepted ∧ ownStopSet r s t ∧
      t = { s with mem := t.mem, bus := t.bus, port := t.port } := by
  have hanswered : (s.openPort.answer .accepted).isActive := ha
  exact ⟨setOwnStop_result r hanswered hroom, setOwnStop_ownStopSet r hanswered hroom,
    setOwnStop_frame r hanswered hroom⟩

/-- Settles O17: STOP and GO either are refused, which leaves the station to `portAnswers_openPort`, or are
accepted and set the own stop reasons, which `accepted_setOwnStop` follows for any set. -/
theorem stopAndGoChangeTheOwnReasons : Obligations.StopAndGoChangeTheOwnReasons := by
  unfold Obligations.StopAndGoChangeTheOwnReasons
  intro s
  refine ⟨fun hstation => ?refused, fun hactive hroom => ?accepted⟩
  case refused =>
    have hidle := not_isActive_of_config_or_halted hstation
    rw [exec_stop_of_not_active hidle, exec_go_of_not_active hidle]
    exact ⟨portAnswers_openPort .refusedState s, portAnswers_openPort .refusedState s⟩
  case accepted =>
    rw [exec_stop_of_active hactive, exec_go_of_active hactive]
    exact ⟨⟨_, rfl, accepted_setOwnStop _ hactive hroom⟩, ⟨_, rfl, accepted_setOwnStop _ hactive hroom⟩⟩

end Sys2Proof.Machine

/-! ## The enables and attention (O11)

WRITE ENABLES writes the port alone, attention is read off the port alone, and a reset leaves the port of R192. -/

namespace Sys2Proof.Machine

/-! ### WRITE ENABLES -/

/-- WRITE ENABLES asks nothing of the station: the three sorts of enables are written, the answer is ACCEPTED and an
open transaction has ended (R188). -/
theorem writeEnables_accepted (latches : BitVec 24) (groupMaster : Byte) (s : State) :
    portAnswers (exec (.writeEnables latches groupMaster) s) .accepted { s with
      port.enables := Vector.ofFn fun k => latches.getLsbD k.val
      port.groups := Vector.ofFn fun g => groupMaster.getLsbD g.val
      port.master := groupMaster.getLsbD 7 } :=
  ⟨[], rfl⟩

/-! ### Attention -/

/-- Attention is asserted exactly while the master enable is on and a set latch has its own and its group's
enable on (R188). -/
theorem attention_iff (s : State) :
    s.attention = true ↔ s.port.master = true ∧ ∃ k : Fin 17, s.port.latches[k] = true ∧
      s.port.enables[k] = true ∧ s.port.groups[latchGroup k] = true := by
  unfold State.attention
  simp only [Bool.and_eq_true, List.any_eq_true, List.mem_finRange, true_and, and_assoc]

/-- With the master enable off attention is released (R188). -/
theorem attention_of_master_off {s : State} (h : s.port.master = false) : s.attention = false := by
  unfold State.attention
  rw [h, Bool.false_and]

/-! ### The port after a reset -/

/-- Every reset leaves the Port and Event Unit of R192. -/
theorem afterReset_port (cause : ResetCause) (tag : W16) (straps : Straps) (s : State) :
    (s.afterReset cause tag straps).port = PortUnit.atReset := rfl

/-- After reset no latch has its own enable on (R192). -/
theorem atReset_enables (k : Fin 17) : PortUnit.atReset.enables[k] = false :=
  Vector.getElem_replicate k.isLt

/-- After reset no latch is set (R192). -/
theorem atReset_latches (k : Fin 17) : PortUnit.atReset.latches[k] = false :=
  Vector.getElem_replicate k.isLt

/-- After reset no group's enable is on (R192). -/
theorem atReset_groups (g : Fin 4) : PortUnit.atReset.groups[g] = false :=
  Vector.getElem_replicate g.isLt

/-- Settles O11: the command and the output have a lemma each, and a reset command's next state has the port of
R192 (`exec_of_isReset`), whose master enable is off. -/
theorem writeEnablesSetsAttention : Obligations.WriteEnablesSetsAttention := by
  unfold Obligations.WriteEnablesSetsAttention
  intro latches groupMaster s
  refine ⟨writeEnables_accepted latches groupMaster s, attention_iff s, ?reset⟩
  case reset =>
    intro c t hc h
    obtain ⟨cause, tag, straps, rfl⟩ := exec_of_isReset hc h
    have hmaster : (s.afterReset cause tag straps).port.master = false := rfl
    refine ⟨attention_of_master_off hmaster, hmaster, ?_⟩
    rw [afterReset_port]
    exact ⟨fun k => ⟨atReset_enables k, atReset_latches k⟩, atReset_groups⟩

end Sys2Proof.Machine

/-! ## The laws that the steps keep (O56 to O59)

`LawsKept L s t` says of two states that `t` has the parameters of `s`, that its station state is that of `s` or HALTED,
and that `t` keeps each of the four groups of laws that `s` obeys. It is reflexive and transitive, so that an
operation made of operations that keep the laws keeps them. `L` stands for what is known where the whole step begins:
the laws of book records rest on each other, so that an operation in the middle of a step may need what held before
it. This part gives the relation and one lemma for each block
of the state that is written; the pass through the operations rests on these lemmas alone. -/

namespace Sys2Proof.Machine

/-- What `t` keeps of the laws that `s` obeys, `L` being known. -/
structure LawsKept (L : Prop) (s t : State) : Prop where
  params : t.params = s.params
  station : t.mem.station = s.mem.station ∨ (s.isActive ∧ t.mem.station = .halted)
  capacity : s.withinCapacity → t.withinCapacity
  bus : s.busLawful → t.busLawful
  joining : s.joiningLawful → t.joiningLawful
  records : L → s.recordsLawful → t.recordsLawful

variable {L : Prop}

namespace LawsKept

@[refl] theorem refl (s : State) : LawsKept L s s := ⟨rfl, .inl rfl, id, id, id, fun _ => id⟩

theorem trans {s t u : State} (h : LawsKept L s t) (h' : LawsKept L t u) : LawsKept L s u where
  params := h'.params.trans h.params
  station := by
    rcases h.station with hst | ⟨ha, hst⟩
    · rcases h'.station with hu | ⟨ht, hu⟩
      · exact .inl (hu.trans hst)
      · exact .inr ⟨by simpa only [State.isActive, hst] using ht, hu⟩
    · rcases h'.station with hu | ⟨_, hu⟩
      · exact .inr ⟨ha, hu.trans hst⟩
      · exact .inr ⟨ha, hu⟩
  capacity := h'.capacity ∘ h.capacity
  bus := h'.bus ∘ h.bus
  joining := h'.joining ∘ h.joining
  records := fun hl => h'.records hl ∘ h.records hl

/-- An operation that goes on unless the station has halted keeps the laws where its second part does. -/
theorem andThen {s t : State} {f : State → State} (h : LawsKept L s t)
    (hf : t.mem.station ≠ .halted → LawsKept L t (f t)) : LawsKept L s (t.andThen f) := by
  by_cases hs : t.mem.station = .halted
  · rwa [andThen_of_halted t f hs]
  · rw [andThen_of_not_halted t f hs]
    exact h.trans (hf hs)

/-- A station that has not halted in the meantime is in the state it was in. -/
theorem station_eq {s t : State} (h : LawsKept L s t) (ht : t.mem.station ≠ .halted) :
    t.mem.station = s.mem.station :=
  h.station.elim id fun ⟨_, hs⟩ => absurd hs ht

theorem role {s t : State} (h : LawsKept L s t) : t.role = s.role := by
  unfold State.role; rw [h.params]

theorem own {s t : State} (h : LawsKept L s t) : t.own = s.own := by
  unfold State.own; rw [h.params]

end LawsKept

/-! ### One block written -/

/-- A change of the port keeps the laws where it keeps the journal's capacity. -/
theorem port_kept {s : State} (p : PortUnit)
    (h : s.port.journal.length ≤ Config.journalCap → p.journal.length ≤ Config.journalCap) :
    LawsKept L s { s with port := p } where
  params := rfl
  station := .inl rfl
  capacity := fun ⟨hq, hz, hi, hm, hv, hj⟩ => ⟨hq, hz, hi, hm, hv, h hj⟩
  bus := id
  joining := id
  records := fun _ => id

/-- A change of the Membership Unit keeps the laws where the station state stands, and the beacon timer in
JOINING. -/
theorem mem_kept {s : State} (m : Membership) (hs : m.station = s.mem.station)
    (hb : s.mem.station = .joining → m.beaconTimer = s.mem.beaconTimer) :
    LawsKept L s { s with mem := m } where
  params := rfl
  station := .inl hs
  capacity := id
  bus := by
    intro h
    simpa only [State.busLawful, State.isActive, State.frameQueued, hs] using h
  joining := by
    intro h hj
    have hj' : s.mem.station = .joining := hs ▸ hj
    obtain ⟨hz, hm, hw, hr, ht⟩ := h hj'
    exact ⟨hz, hm, hw, hr, (hb hj').trans ht⟩
  records := by
    rintro - ⟨hz, hi, hq, hw, hp, ho⟩
    exact ⟨hz, hi, hq, hw, fun hc => hp (hs ▸ hc), ho⟩

/-- A change of the Identity Reader keeps the laws outside JOINING, and there where it leaves the reader as reset
left it. -/
theorem rd_kept {s : State} (r : Reader)
    (h : s.mem.station = .joining → s.rd = Reader.atReset → r = Reader.atReset) :
    LawsKept L s { s with rd := r } where
  params := rfl
  station := .inl rfl
  capacity := id
  bus := id
  joining := by
    intro hl hj
    obtain ⟨hz, hm, hw, hr, ht⟩ := hl hj
    exact ⟨hz, hm, hw, h hj hr, ht⟩
  records := fun _ => id

/-- A change of the Part Magazine Unit keeps the laws where it keeps the capacities, and no part comes in JOINING. -/
theorem parts_kept {s : State} (p : PartMagazine)
    (hm : s.parts.magazine.length ≤ Config.magazineCap → p.magazine.length ≤ Config.magazineCap)
    (hv : s.parts.voids.length ≤ Config.voidCap → p.voids.length ≤ Config.voidCap)
    (h : s.mem.station = .joining → s.parts.magazine = [] → p.magazine = []) :
    LawsKept L s { s with parts := p } where
  params := rfl
  station := .inl rfl
  capacity := fun ⟨cq, cz, ci, cm, cv, cj⟩ => ⟨cq, cz, ci, hm cm, hv cv, cj⟩
  bus := id
  joining := by
    intro hl hj
    obtain ⟨hz, hm, hw, hr, ht⟩ := hl hj
    exact ⟨hz, h hj hm, hw, hr, ht⟩
  records := fun _ => id

/-- A change of the Heat Share Unit keeps the laws where a JACKET station has none. -/
theorem heat_kept {s : State} (h : HeatShare)
    (hr : L → s.workLawful → s.role = some .jacket → h = HeatShare.atReset) :
    LawsKept L s { s with heat := h } where
  params := rfl
  station := .inl rfl
  capacity := id
  bus := id
  joining := id
  records := by
    rintro hl ⟨hz, hi, hq, hw, hp, ho⟩
    refine ⟨hz, hi, hq, ⟨hw.1, fun hj => ?_⟩, hp, ho⟩
    obtain ⟨hpress, -, hdivert, hrecord⟩ := hw.2 hj
    exact ⟨hpress, hr hl hw hj, hdivert, hrecord⟩

/-- A change of the lists and of the work keeps the laws where it keeps the laws of the lists and of the work, and
leaves JOINING without a record and without work. -/
theorem zt_work_kept {s : State} (z : ZoneTracker) (w : WorkSequencer)
    (hz : s.zt.zone.length ≤ Config.zoneCap → z.zone.length ≤ Config.zoneCap)
    (hi : s.zt.incoming.length ≤ Config.incomingCap → z.incoming.length ≤ Config.incomingCap)
    (hq : s.mem.station = .joining → s.zt.zone = [] → s.parts.magazine = [] →
      s.work = WorkSequencer.atReset → s.rd = Reader.atReset →
      z.zone = [] ∧ w = WorkSequencer.atReset)
    (hr : L → s.recordsLawful → (∀ y ∈ z.zone, y.book.lawful) ∧ (∀ r ∈ z.incoming, r.book.lawful) ∧
      { s with zt := z, work := w }.workLawful ∧ { s with zt := z, work := w }.zoneLawful) :
    LawsKept L s { s with zt := z, work := w } where
  params := rfl
  station := .inl rfl
  capacity := fun ⟨cq, cz, ci, cm, cv, cj⟩ => ⟨cq, hz cz, hi ci, cm, cv, cj⟩
  bus := id
  joining := by
    intro hl hj
    obtain ⟨jz, jm, jw, jr, jt⟩ := hl hj
    obtain ⟨hzone, hwork⟩ := hq hj jz jm jw jr
    exact ⟨hzone, jm, hwork, jr, jt⟩
  records := by
    intro hl h
    obtain ⟨hzone, hinc, hwork, hord⟩ := hr hl h
    obtain ⟨-, -, htxq, -, hparams, -⟩ := h
    exact ⟨hzone, hinc, htxq, hwork, hparams, hord⟩

/-- A change of the work alone. -/
theorem work_kept {s : State} (w : WorkSequencer)
    (hq : s.mem.station = .joining → s.zt.zone = [] → s.parts.magazine = [] →
      s.work = WorkSequencer.atReset → s.rd = Reader.atReset → w = WorkSequencer.atReset)
    (hr : L → s.recordsLawful → { s with work := w }.workLawful) : LawsKept L s { s with work := w } :=
  zt_work_kept s.zt w id id (fun hj hz hm hw hd => ⟨hz, hq hj hz hm hw hd⟩) fun hl h => by
    have hw := hr hl h
    obtain ⟨hzone, hinc, -, -, -, hord⟩ := h
    exact ⟨hzone, hinc, hw, hord⟩

/-- A change of the Zone Tracker that leaves the zone list. -/
theorem zt_kept {s : State} (z : ZoneTracker) (hz : z.zone = s.zt.zone)
    (hi : s.zt.incoming.length ≤ Config.incomingCap → z.incoming.length ≤ Config.incomingCap)
    (hr : L → s.recordsLawful → ∀ r ∈ z.incoming, r.book.lawful) : LawsKept L s { s with zt := z } :=
  zt_work_kept z s.work (fun h => by rwa [hz]) hi (fun _ h _ hw _ => ⟨hz.trans h, hw⟩) fun hl h => by
    have hinc := hr hl h
    obtain ⟨hzone, -, -, hw, -, hord⟩ := h
    refine ⟨by rwa [hz], hinc, ?_, ?_⟩
    · refine ⟨hw.1, fun hj => ?_⟩
      obtain ⟨hpress, hheat, hdivert, hrecord⟩ := hw.2 hj
      refine ⟨hpress, hheat, hdivert, fun hb => ?_⟩
      obtain ⟨y, hy, hk⟩ := hrecord hb
      exact ⟨y, (congrArg (List.find? fun y : ZoneRecord => y.phase == Phase.atWork) hz).trans hy, hk⟩
    · simpa only [State.zoneLawful, hz] using hord

/-- A change of the Zone Tracker that leaves both lists. -/
theorem zt_lists_kept {s : State} (z : ZoneTracker) (hz : z.zone = s.zt.zone)
    (hi : z.incoming = s.zt.incoming) : LawsKept L s { s with zt := z } :=
  zt_kept z hz (fun h => by rwa [hi]) fun _ h => by
    obtain ⟨-, hinc, -⟩ := h
    rwa [hi]

/-! ### The bus -/

/-- A halt keeps the laws (R46). -/
theorem halt_kept (r : HaltReason) (s : State) : LawsKept L s (s.halt r) := by
  by_cases ha : s.isActive
  · have hst := halt_station_of_active r s ha
    unfold State.halt at hst ⊢
    rw [if_pos ha] at hst ⊢
    refine ⟨rfl, .inr ⟨ha, hst⟩, ?_, ?_, ?_, ?_⟩
    · rintro ⟨-, cz, ci, cm, cv, cj⟩
      refine ⟨Nat.zero_le _, cz, ci, ?_, cv, append_journal_length _ _ _ _ cj⟩
      show (noneWaiting s.parts.magazine).length ≤ _
      simpa [noneWaiting] using cm
    · rintro ⟨-, -, hquiet, -, -⟩
      refine ⟨?_, fun _ => ⟨rfl, rfl, rfl⟩, hquiet, trivial, by rintro e ⟨⟩⟩
      simp [State.isActive]
    · intro _ hj
      cases hst.symm.trans hj
    · rintro - ⟨hz, hi, -, hw, hp, ho⟩
      refine ⟨hz, hi, by rintro e ⟨⟩, hw, fun _ => hp ?_, ho⟩
      rintro hc
      simp [State.isActive, hc] at ha
  · rw [halt_of_not_active r s ha]

/-- A notice put at the tail of the queue leaves the frame in progress its notice (R20). -/
theorem frameQueued_append {s : State} (e : TxEntry) (h : s.frameQueued) :
    { s with bus.txq := s.bus.txq ++ [e] }.frameQueued := by
  unfold State.frameQueued at h ⊢
  dsimp only
  split <;> rename_i heq <;> rw [heq] at h
  · obtain ⟨x, hx, hk⟩ := Option.map_eq_some_iff.mp h
    rw [List.getElem?_append_left (List.getElem?_eq_some_iff.mp hx).1, hx]
    exact congrArg some hk
  · obtain ⟨x, hx, hk⟩ := Option.map_eq_some_iff.mp h
    rw [List.getElem?_append_left (List.getElem?_eq_some_iff.mp hx).1, hx]
    exact congrArg some hk
  · trivial
  · trivial

/-- A journal entry keeps the laws. -/
theorem log_kept (k : JournalKind) (tag : W16) (d : Detail) (s : State) : LawsKept L s (s.log k tag d) :=
  port_kept _ (append_journal_length k tag d s.port)

/-- A latch keeps the laws. -/
theorem latch_kept (l : Latch) (s : State) : LawsKept L s (s.latch l) := port_kept _ id

/-- An answer keeps the laws. -/
theorem answer_kept (r : PortResult) (s : State) : LawsKept L s (s.answer r) := port_kept _ id

/-- Asking for a notice keeps the laws where its record, if it carries one, is lawful (R28, R30). -/
theorem queue_kept_of_lawful (n : Notice) (s : State) (hn : L → s.recordsLawful → n.lawful) :
    LawsKept L s (s.queue n) := by
  by_cases ha : s.isActive
  · by_cases hroom : s.bus.txq.length < Config.txqCap
    · rw [queue_of_room n s ha hroom]
      refine ⟨rfl, .inl rfl, ?_, ?_, id, ?_⟩
      · rintro ⟨-, cz, ci, cm, cv, cj⟩
        refine ⟨?_, cz, ci, cm, cv, cj⟩
        simpa using hroom
      · rintro ⟨hatt, -, hquiet, hframe, hfail⟩
        refine ⟨hatt, fun h => absurd ha h, hquiet, frameQueued_append _ hframe, fun e he => ?_⟩
        rcases List.mem_append.mp he with he | he
        · exact hfail e he
        · rw [List.mem_singleton.mp he]
          exact Nat.zero_lt_succ 7
      · intro hl h
        have hl := hn hl h
        obtain ⟨hz, hi, hq, hw, hp, ho⟩ := h
        refine ⟨hz, hi, fun e he => ?_, hw, hp, ho⟩
        rcases List.mem_append.mp he with he | he
        · exact hq e he
        · rwa [List.mem_singleton.mp he]
    · rw [queue_of_full n s ha hroom]
      exact (log_kept _ _ _ s).trans (halt_kept _ _)
  · rw [queue_of_not_active n s ha]

/-- Asking for a notice that carries no record keeps the laws. -/
theorem queue_kept (n : Notice) (s : State) (hn : n.lawful := by trivial) : LawsKept L s (s.queue n) :=
  queue_kept_of_lawful n s fun _ _ => hn

/-- With no frame in progress the queue may lose notices, and the notices in it may change that fail and carry
lawfully. -/
theorem txq_kept {s : State} (q : List TxEntry) (hf : s.bus.frame = .none)
    (hl : q.length ≤ s.bus.txq.length)
    (hq : ∀ e ∈ q, ∃ e' ∈ s.bus.txq, (e'.failures < Config.failureLimit → e.failures < Config.failureLimit) ∧
      (e'.notice.lawful → e.notice.lawful)) :
    LawsKept L s { s with bus.txq := q } where
  params := rfl
  station := .inl rfl
  capacity := fun ⟨cq, cz, ci, cm, cv, cj⟩ => ⟨hl.trans cq, cz, ci, cm, cv, cj⟩
  bus := by
    rintro ⟨hatt, hidle, hquiet, -, hfail⟩
    refine ⟨hatt, fun hn => ?_, hquiet, by simp [State.frameQueued, hf], fun e he => ?_⟩
    · obtain ⟨h0, hrest⟩ := hidle hn
      rw [h0] at hl
      exact ⟨List.eq_nil_of_length_eq_zero (Nat.le_zero.mp hl), hrest⟩
    · obtain ⟨e', he', h, -⟩ := hq e he
      exact h (hfail e' he')
  joining := id
  records := by
    rintro - ⟨hz, hi, hn, hw, hp, ho⟩
    refine ⟨hz, hi, fun e he => ?_, hw, hp, ho⟩
    obtain ⟨e', he', -, h⟩ := hq e he
    exact h (hn e' he')

/-- With no frame in progress notices may leave the queue. -/
theorem txq_sublist_kept {s : State} {q : List TxEntry} (hf : s.bus.frame = .none)
    (h : q.Sublist s.bus.txq) : LawsKept L s { s with bus.txq := q } :=
  txq_kept q hf h.length_le fun e he => ⟨e, h.subset he, id, id⟩

/-- A frame in progress ends (R20). -/
theorem endFrame_kept {s : State} (d : Drive) (hf : s.bus.frame ≠ .none) : LawsKept L s (s.endFrame d) where
  params := rfl
  station := .inl rfl
  capacity := id
  bus := by
    rintro ⟨hatt, hidle, -, -, hfail⟩
    refine ⟨hatt, fun hn => absurd (hidle hn).2.1 hf, Nat.zero_le _, trivial, hfail⟩
  joining := id
  records := fun _ => id

/-! ### The records of the zone list -/

/-- A record of the zone list as its station-held state and its book move on: it keeps its place, its book stays
lawful, and at work it stays cased and pressed. -/
structure ZoneRecord.Kept (a b : ZoneRecord) : Prop where
  phase : b.phase = a.phase
  counting : b.counting = true → a.counting = true
  adoption : b.adoption ≠ none → a.adoption ≠ none
  book : a.book.lawful → b.book.lawful
  atWork : a.phase = .atWork → a.book.caseMarriage.isSome → a.book.pressed = true →
    b.book.caseMarriage.isSome ∧ b.book.pressed = true

theorem ZoneRecord.Kept.refl (a : ZoneRecord) : a.Kept a := ⟨rfl, id, id, id, fun _ h h' => ⟨h, h'⟩⟩

/-- A zone list whose records move on in their places. -/
abbrev ZoneKept : List ZoneRecord → List ZoneRecord → Prop := List.Forall₂ ZoneRecord.Kept

/-- A change of the first record that is picked. -/
theorem zoneKept_mapFirst {p : ZoneRecord → Bool} {f : ZoneRecord → ZoneRecord} {l : List ZoneRecord}
    (h : ∀ z, l.find? p = some z → z.Kept (f z)) : ZoneKept l (mapFirst p f l) := by
  induction l with
  | nil => exact .nil
  | cons x xs ih =>
    unfold mapFirst
    by_cases hx : p x = true
    · rw [if_pos hx]
      exact .cons (h x (by simp [hx])) (List.forall₂_same.mpr fun y _ => ZoneRecord.Kept.refl y)
    · rw [if_neg hx]
      exact .cons (.refl x) (ih fun z hz => h z (by simpa [hx] using hz))

/-- A change of every record. -/
theorem zoneKept_map {f : ZoneRecord → ZoneRecord} {l : List ZoneRecord} (h : ∀ z : ZoneRecord, z.Kept (f z)) :
    ZoneKept l (l.map f) :=
  List.forall₂_map_right_iff.mpr (List.forall₂_same.mpr fun z _ => h z)

/-- A change of the record at an index. -/
theorem zoneKept_set {l : List ZoneRecord} {i : Nat} {z y : ZoneRecord} (hz : l[i]? = some z)
    (h : ZoneRecord.Kept z y) : ZoneKept l (l.set i y) := by
  refine List.forall₂_iff_get.mpr ⟨by simp, fun j hj hj' => ?_⟩
  by_cases hij : i = j
  · subst hij
    obtain ⟨_, rfl⟩ := List.getElem?_eq_some_iff.mp hz
    simpa using h
  · simpa [List.getElem_set_ne hij] using ZoneRecord.Kept.refl _

theorem ZoneKept.lawful {l l' : List ZoneRecord} (h : ZoneKept l l') (hl : ∀ z ∈ l, z.book.lawful) :
    ∀ z ∈ l', z.book.lawful := by
  induction h with
  | nil => exact hl
  | cons hab _ ih =>
    rw [List.forall_mem_cons] at hl ⊢
    exact ⟨hab.book hl.1, ih hl.2⟩

theorem ZoneKept.forall_phase {l l' : List ZoneRecord} (h : ZoneKept l l') {P : Phase → Prop}
    (hl : ∀ z ∈ l, P z.phase) : ∀ z ∈ l', P z.phase := by
  induction h with
  | nil => exact hl
  | cons hab _ ih =>
    rw [List.forall_mem_cons] at hl ⊢
    exact ⟨hab.phase ▸ hl.1, ih hl.2⟩

theorem ZoneKept.pairwise {l l' : List ZoneRecord} (h : ZoneKept l l') (hl : l.Pairwise mayPrecede) :
    l'.Pairwise mayPrecede := by
  induction h with
  | nil => exact hl
  | @cons a b l l' hab hrest ih =>
    obtain ⟨hfirst, htail⟩ := List.pairwise_cons.mp hl
    refine List.pairwise_cons.mpr ⟨?_, ih htail⟩
    have := ZoneKept.forall_phase hrest (P := fun p => a.phase.rank ≤ p.rank ∧ ¬ (a.phase = .atWork ∧ p = .atWork))
      hfirst
    intro z hz
    unfold mayPrecede
    rw [hab.phase]
    exact this z hz

theorem ZoneKept.counting_length {l l' : List ZoneRecord} (h : ZoneKept l l') :
    (l'.filter ZoneRecord.counting).length ≤ (l.filter ZoneRecord.counting).length := by
  induction h with
  | nil => exact le_rfl
  | @cons a b l l' hab _ ih =>
    by_cases hb : b.counting = true
    · simp only [List.filter_cons, hb, hab.counting hb, if_true, List.length_cons]
      omega
    · have hb' : b.counting = false := by simpa using hb
      rw [List.filter_cons_of_neg (by simpa using hb')]
      exact ih.trans ((List.sublist_cons_self a l).filter _).length_le

theorem ZoneKept.adoption {l l' : List ZoneRecord} (h : ZoneKept l l')
    (hl : ∀ z ∈ l, z.adoption ≠ none → z.phase = .entering) :
    ∀ z ∈ l', z.adoption ≠ none → z.phase = .entering := by
  induction h with
  | nil => exact hl
  | cons hab _ ih =>
    rw [List.forall_mem_cons] at hl ⊢
    exact ⟨fun hb => hab.phase ▸ hl.1 (hab.adoption hb), ih hl.2⟩

/-- The record at work stays at work. -/
theorem ZoneKept.atWork {l l' : List ZoneRecord} (h : ZoneKept l l') {z : ZoneRecord}
    (hz : l.find? (fun y => y.phase == .atWork) = some z) :
    ∃ y, l'.find? (fun y => y.phase == .atWork) = some y ∧ z.Kept y := by
  induction h with
  | nil => cases hz
  | @cons a b l l' hab _ ih =>
    by_cases ha : a.phase = .atWork
    · obtain rfl : a = z := by simpa [ha] using hz
      exact ⟨b, by simp [hab.phase, ha], hab⟩
    · obtain ⟨y, hy, hk⟩ := ih (by simpa [ha] using hz)
      exact ⟨y, by simpa [hab.phase, ha] using hy, hk⟩

/-- A zone list whose records move on keeps the laws of the list and of the work. -/
theorem ZoneKept.laws {s : State} {l : List ZoneRecord} (h : ZoneKept s.zt.zone l) (hr : s.recordsLawful) :
    (∀ y ∈ l, y.book.lawful) ∧ { s with zt.zone := l }.workLawful ∧ { s with zt.zone := l }.zoneLawful := by
  obtain ⟨hz, -, -, ⟨hidle, hjacket⟩, -, hpair, hcount, hadopt⟩ := hr
  refine ⟨h.lawful hz, ⟨hidle, fun hj => ?_⟩, h.pairwise hpair, h.counting_length.trans hcount,
    h.adoption hadopt⟩
  obtain ⟨hpress, hheat, hdivert, hrecord⟩ := hjacket hj
  refine ⟨hpress, hheat, hdivert, fun hw => ?_⟩
  obtain ⟨z, hat, hcase, hpressed⟩ := hrecord hw
  obtain ⟨y, hy, hk⟩ := h.atWork hat
  have hphase : z.phase = .atWork := by simpa using List.find?_some hat
  exact ⟨y, hy, hk.atWork hphase hcase hpressed⟩

/-- A change of the records in their places keeps the laws. -/
theorem zone_kept {s : State} (l : List ZoneRecord) (hl : l.length = s.zt.zone.length)
    (h : L → s.recordsLawful → ZoneKept s.zt.zone l) : LawsKept L s { s with zt.zone := l } :=
  zt_work_kept { s.zt with zone := l } s.work (fun hz => by simpa [hl] using hz) id
    (fun _ hz _ hw _ => ⟨List.eq_nil_of_length_eq_zero (by simpa [hz] using hl), hw⟩) fun hl hr => by
      obtain ⟨hbook, hwork, hord⟩ := ZoneKept.laws (h hl hr) hr
      exact ⟨hbook, hr.2.1, hwork, hord⟩

end Sys2Proof.Machine

/-! ### What operations on book records keep (R1, R3, R5 to R7) -/

namespace Sys2Proof.Machine

/-- A mark leaves a record lawful (R5). -/
theorem addMark_lawful {b : BookRecord} (k : MarkKind) (p : Pos) (h : b.lawful) : (b.addMark k p).lawful := by
  obtain ⟨hmarks, hverdict, hkey, hformat, -, -, hheat, hjacket⟩ := h
  refine ⟨?_, ⟨fun _ => ?_, fun _ => rfl⟩, hkey, hformat, ?_, Nat.zero_le _, hheat, hjacket⟩
  · show (if b.marks.length < Config.markCap then b.marks ++ [⟨k, p⟩] else b.marks).length ≤ _
    split
    · simpa using ‹b.marks.length < Config.markCap›
    · exact hmarks
  · show (if b.marks.length < Config.markCap then b.marks ++ [⟨k, p⟩] else b.marks) ≠ []
    split
    · simp
    · rintro hnil
      simp [hnil, Config.markCap] at *
  · rintro ⟨⟩

/-- A record as it is created is lawful (R1). -/
theorem created_lawful (tag : W16) : (BookRecord.created tag).lawful := by
  refine ⟨Nat.zero_le _, by simp [BookRecord.created], Iff.rfl, ?_, ?_, Nat.zero_le _, Nat.zero_le _, ?_⟩ <;>
    rintro ⟨⟩

/-- Open time that runs leaves a record lawful. -/
theorem withOpenTime_lawful {b : BookRecord} {t : Option Nat} (h : b.lawful)
    (hs : t.isSome → b.openTime.isSome) (ht : t.getD 0 ≤ b.openTime.getD 0) : (b.withOpenTime t).lawful := by
  obtain ⟨hmarks, hverdict, hkey, hformat, hopen, hmax, hheat, hjacket⟩ := h
  exact ⟨hmarks, hverdict, hkey, hformat, hopen ∘ hs, ht.trans hmax, hheat, hjacket⟩

/-- A record without open time left is lawful as it was. -/
theorem noOpenTime_lawful {b : BookRecord} (h : b.lawful) : { b with openTime := none }.lawful :=
  withOpenTime_lawful h (fun hn => by cases hn) (Nat.zero_le _)

/-- A length leaves a record lawful. -/
theorem withLength_lawful {b : BookRecord} (l : Option Nat) (h : b.lawful) : { b with length := l }.lawful := h

/-- Heat credited leaves a record lawful (R7). -/
theorem credited_lawful {b : BookRecord} (n : Nat) (s : State) (h : b.lawful) : (s.credited n b).lawful := by
  obtain ⟨hmarks, hverdict, hkey, hformat, hopen, hmax, -, hjacket⟩ := h
  refine ⟨hmarks, hverdict, hkey, hformat, hopen, hmax, Nat.min_le_left _ _, fun hj => ?_⟩
  obtain ⟨hcase, hpressed⟩ := hjacket hj
  exact ⟨hcase, by simp [State.credited, hpressed]⟩

/-- A marriage at CASE leaves a GOOD record lawful, with an open time in its range (R116). -/
theorem cased_lawful {b : BookRecord} (m : Marriage) {n : Nat} (h : b.lawful) (hv : b.verdict = .good)
    (hn : n ≤ 3000) : { b with caseMarriage := some m, openTime := some n }.lawful := by
  obtain ⟨hmarks, hverdict, hkey, hformat, -, -, hheat, hjacket⟩ := h
  exact ⟨hmarks, hverdict, hkey, hformat, fun _ => ⟨hv, rfl⟩, hn, hheat, fun hj => ⟨rfl, (hjacket hj).2⟩⟩

/-- A marriage at JACKET leaves a cased and pressed record lawful (R167). -/
theorem jacketed_lawful {b : BookRecord} (m : Marriage) (h : b.lawful) (hc : b.caseMarriage.isSome)
    (hp : b.pressed = true) : { b with jacketMarriage := some m }.lawful := by
  obtain ⟨hmarks, hverdict, hkey, hformat, hopen, hmax, hheat, -⟩ := h
  exact ⟨hmarks, hverdict, hkey, hformat, hopen, hmax, hheat, fun _ => ⟨hc, hp⟩⟩

/-- An ID leaves a record lawful (R15). -/
theorem identified_lawful {b : BookRecord} (k : Key) (c : W16) (f : Option FormatIx) (h : b.lawful) :
    { b with key := some k, copy := some c, format := f }.lawful := by
  obtain ⟨hmarks, hverdict, -, -, hopen, hmax, hheat, hjacket⟩ := h
  exact ⟨hmarks, hverdict, Iff.rfl, fun _ => rfl, hopen, hmax, hheat, hjacket⟩

/-- A record read from an image is lawful, whatever the bytes (R193). -/
theorem recordOf_lawful (image : RecordImage) : (recordOf image).lawful := by
  have hcount : (([image[20], image[21], image[22], image[23]].take (min image[19].toNat 4)).map markOf).length
      = min image[19].toNat 4 := by
    simp
  refine ⟨?_, ?_, ?_, ?_, ?_, ?_, Nat.min_le_right _ _, ?_⟩
  · exact hcount.le.trans (Nat.min_le_right _ _)
  · show (if min image[19].toNat 4 = 0 then Verdict.good else .reject) = .reject ↔
      (([image[20], image[21], image[22], image[23]].take (min image[19].toNat 4)).map markOf) ≠ []
    rw [← List.length_pos_iff_ne_nil, hcount]
    split <;> simp <;> omega
  · unfold recordOf
    dsimp only
    split <;> simp
  · unfold recordOf
    dsimp only
    split <;> simp
  · unfold recordOf
    dsimp only
    split
    next hgood =>
      obtain ⟨hcount, hcase, -⟩ := hgood
      exact fun _ => ⟨if_pos hcount, hcase⟩
    next => simp
  · unfold recordOf
    dsimp only
    split
    · exact Nat.min_le_right _ _
    · exact Nat.zero_le _
  · unfold recordOf
    dsimp only
    split
    · intro _
      assumption
    · simp

/-- A record taken over is lawful (R82). -/
theorem onTaking_lawful {b : BookRecord} (p : Pos) (h : b.lawful) : (b.onTaking p).lawful := by
  unfold BookRecord.onTaking
  split
  · exact addMark_lawful _ _ h
  · exact h

/-- A change of the book that keeps it lawful, cased and pressed. -/
theorem ZoneRecord.Kept.of_book {z : ZoneRecord} {f : BookRecord → BookRecord}
    (h : z.book.lawful → (f z.book).lawful) (hc : (f z.book).caseMarriage = z.book.caseMarriage)
    (hp : z.book.pressed = true → (f z.book).pressed = true) : z.Kept (z.onBook f) :=
  ⟨rfl, id, id, h, fun _ hcase hpressed => ⟨by show (f z.book).caseMarriage.isSome; rwa [hc], hp hpressed⟩⟩

/-- A mark keeps the laws of a record in its place. -/
theorem kept_addMark (k : MarkKind) (p : Pos) (z : ZoneRecord) :
    z.Kept (z.onBook (BookRecord.addMark k p)) :=
  .of_book (addMark_lawful k p) rfl id

/-! ### The record at work -/

/-- No record at work: none in a zone list that is empty. -/
theorem zone_ne_nil_of_atWork {s : State} {z : ZoneRecord} (h : s.atWork? = some z) : s.zt.zone ≠ [] :=
  List.ne_nil_of_mem (List.mem_of_find?_eq_some h)

/-- The record at work is AT_WORK. -/
theorem atWork_phase {s : State} {z : ZoneRecord} (h : s.atWork? = some z) : z.phase = .atWork := by
  simpa using List.find?_some h

variable {L : Prop}

/-- A change of the record at work keeps the laws where it keeps those of the record. -/
theorem onAtWork_kept {f : ZoneRecord → ZoneRecord} (s : State)
    (h : ∀ z, s.atWork? = some z → z.Kept (f z)) : LawsKept L s (s.onAtWork f) :=
  zone_kept _ (mapFirst_length _ _ _) fun _ _ => zoneKept_mapFirst h

/-- A mark on the record at work keeps the laws (R5). -/
theorem markAtWork_kept (k : MarkKind) (s : State) : LawsKept L s (s.markAtWork k) :=
  onAtWork_kept s fun z _ => kept_addMark k s.own z

/-- Nothing is asked of the magazine for the record at work: no matching, no cycle of its own. -/
def State.noPartAsked (s : State) : Prop :=
  s.work.parts = .idle ∧ s.work.cycle.any Cycle.owned = false

theorem not_asked_iff (s : State) :
    ¬ s.noPartAsked ↔ s.work.parts ≠ .idle ∨ s.work.cycle.any Cycle.owned = true := by
  unfold State.noPartAsked
  rw [not_and_or, Bool.not_eq_false]

/-- Work done in a zone list: the first AT_WORK record becomes WORKED. -/
abbrev workDoneIn (l : List ZoneRecord) : List ZoneRecord :=
  mapFirst (fun z => z.phase == .atWork) (fun z => { z with phase := .worked }) l

theorem mem_workDoneIn {l : List ZoneRecord} {y : ZoneRecord} (h : y ∈ workDoneIn l) :
    ∃ x ∈ l, y.book = x.book ∧ y.adoption = x.adoption ∧
      (y.phase = x.phase ∨ (x.phase = .atWork ∧ y.phase = .worked)) := by
  rcases mem_mapFirst _ _ _ _ h with h | ⟨x, hx, hp, rfl⟩
  · exact ⟨y, h, rfl, rfl, .inl rfl⟩
  · exact ⟨x, hx, rfl, rfl, .inr ⟨by simpa using hp, rfl⟩⟩

/-- Work done keeps the order of a zone list (R57, R69). -/
theorem workDoneIn_pairwise {l : List ZoneRecord} (h : l.Pairwise mayPrecede) :
    (workDoneIn l).Pairwise mayPrecede := by
  induction l with
  | nil => exact h
  | cons x xs ih =>
    obtain ⟨hx, hxs⟩ := List.pairwise_cons.mp h
    unfold workDoneIn mapFirst
    by_cases hw : x.phase = .atWork
    · rw [if_pos (by simpa using hw)]
      exact List.pairwise_cons.mpr ⟨fun y _ => ⟨Nat.zero_le _, by simp⟩, hxs⟩
    · rw [if_neg (by simpa using hw)]
      refine List.pairwise_cons.mpr ⟨fun y hy => ?_, ih hxs⟩
      obtain ⟨x', hx', -, -, hp⟩ := mem_workDoneIn hy
      obtain ⟨hrank, -⟩ := hx x' hx'
      refine ⟨?_, fun hc => hw hc.1⟩
      rcases hp with hp | ⟨hat, hp⟩
      · rwa [hp]
      · rw [hat] at hrank
        cases hxp : x.phase <;> simp_all [Phase.rank]

/-- A change of one record that leaves its length count leaves the number of records that count. -/
theorem counting_mapFirst {p : ZoneRecord → Bool} {f : ZoneRecord → ZoneRecord} (l : List ZoneRecord)
    (h : ∀ z, (f z).counting = z.counting) :
    ((mapFirst p f l).filter ZoneRecord.counting).length = (l.filter ZoneRecord.counting).length := by
  induction l with
  | nil => rfl
  | cons x xs ih =>
    unfold mapFirst
    split
    · simp only [List.filter_cons, h]
      split <;> rfl
    · simp only [List.filter_cons]
      split <;> simp [ih]

/-- Work done keeps the laws, with the work left so that nothing is asked of the magazine (R69). -/
theorem workDone_kept {s : State} (w : WorkSequencer)
    (hq : s.mem.station = .joining → s.work = WorkSequencer.atReset → w = WorkSequencer.atReset)
    (hidle : L → s.workLawful → s.hasMagazine = false → w.parts = .idle)
    (hj : L → s.workLawful → s.role = some .jacket →
      w.press = .idle ∧ w.divert = none ∧ w.parts = .idle ∧ w.cycle.any Cycle.owned = false) :
    LawsKept L s { s with zt.zone := workDoneIn s.zt.zone, work := w } :=
  zt_work_kept { s.zt with zone := workDoneIn s.zt.zone } w (fun hz => by simpa using hz) id
    (fun hs hz _ hw _ => ⟨by simp [hz, mapFirst], hq hs hw⟩) fun hl h => by
      obtain ⟨hzone, hinc, -, hwork, -, hpair, hcount, hadopt⟩ := h
      refine ⟨fun y hy => ?_, hinc, ⟨hidle hl hwork, fun hrole => ?_⟩, workDoneIn_pairwise hpair,
        (counting_mapFirst (f := fun z => { z with phase := .worked }) _ fun _ => rfl).le.trans hcount, fun y hy ha => ?_⟩
      · obtain ⟨x, hx, hb, -⟩ := mem_workDoneIn hy
        exact hb ▸ hzone x hx
      · obtain ⟨hpress, hdivert, hparts, hcycle⟩ := hj hl hwork hrole
        refine ⟨hpress, (hwork.2 hrole).2.1, hdivert, fun hc => ?_⟩
        rcases hc with hc | hc
        · exact absurd hparts hc
        · exact absurd hc (by simp [hcycle])
      · obtain ⟨x, hx, -, ha', hp⟩ := mem_workDoneIn hy
        have hent := hadopt x hx (ha' ▸ ha)
        rcases hp with hp | ⟨hat, -⟩
        · exact hp.trans hent
        · rw [hat] at hent
          cases hent

/-- Work done at a station where nothing is asked of the magazine. -/
theorem markWorked_kept {s : State} (h : L → s.role = some .jacket → s.noPartAsked) :
    LawsKept L s s.markWorked :=
  workDone_kept s.work (fun _ => id) (fun _ hw => hw.1) fun hl hw hr => by
    obtain ⟨hpress, -, hdivert, -⟩ := hw.2 hr
    obtain ⟨hparts, hcycle⟩ := h hl hr
    exact ⟨hpress, hdivert, hparts, hcycle⟩

/-! ### Records that leave and come -/

/-- Records that leave the zone list keep the laws where the record at work stays, or nothing is asked of the
magazine for it. -/
theorem zone_sublist_kept {s : State} {l : List ZoneRecord} (hl : l.Sublist s.zt.zone)
    (hj : L → s.role = some .jacket →
      s.noPartAsked ∨ l.find? (fun z => z.phase == .atWork) = s.atWork?) :
    LawsKept L s { s with zt.zone := l } :=
  zt_work_kept { s.zt with zone := l } s.work (fun hz => hl.length_le.trans hz) id
    (fun _ hz _ hw _ => ⟨List.eq_nil_of_length_eq_zero (Nat.le_zero.mp (by simpa [hz] using hl.length_le)), hw⟩)
    fun hL h => by
      obtain ⟨hzone, hinc, -, hwork, -, hpair, hcount, hadopt⟩ := h
      refine ⟨fun y hy => hzone y (hl.subset hy), hinc, ⟨hwork.1, fun hrole => ?_⟩, hpair.sublist hl,
        ((hl.filter _).length_le).trans hcount, fun y hy => hadopt y (hl.subset hy)⟩
      obtain ⟨hpress, hheat, hdivert, hrecord⟩ := hwork.2 hrole
      refine ⟨hpress, hheat, hdivert, fun hasked => ?_⟩
      rcases hj hL hrole with hno | heq
      · exact absurd hno ((not_asked_iff s).mpr hasked)
      · obtain ⟨z, hz, hk⟩ := hrecord hasked
        exact ⟨z, heq.trans hz, hk⟩

/-- Incoming records that leave keep the laws. -/
theorem incoming_sublist_kept {s : State} {l : List IncomingRecord} (hl : l.Sublist s.zt.incoming) :
    LawsKept L s { s with zt.incoming := l } :=
  zt_kept { s.zt with incoming := l } rfl (fun hi => hl.length_le.trans hi) fun _ h r hr =>
    h.2.1 r (hl.subset hr)

/-- With the length counts of all others ended, at most the record entering is counting (R59, R65). -/
theorem counting_entered (l : List ZoneRecord) (z : ZoneRecord) :
    ((l.map (fun y : ZoneRecord => { y with counting := false }) ++ [z]).filter ZoneRecord.counting).length ≤ 1 := by
  have : (l.map (fun y : ZoneRecord => { y with counting := false })).filter ZoneRecord.counting = [] := by
    simp [List.filter_eq_nil_iff]
  rw [List.filter_append, this, List.nil_append]
  exact List.length_filter_le _ [z]

/-- A record that enters the zone list keeps the laws, with a place free and outside JOINING (R59). -/
theorem enterZone_kept {z : ZoneRecord} {s : State} (hfree : s.zt.zone.length < Config.zoneCap)
    (hs : s.mem.station ≠ .joining) (hphase : z.phase = .entering) (hz : L → z.book.lawful) :
    LawsKept L s (s.enterZone z) :=
  zt_work_kept
    { s.zt with
      zone := s.zt.zone.map (fun y => { y with counting := false }) ++ [{ z with counting := true }]
      lengthCount := 0 } s.work
    (fun _ => by simpa using hfree) id (fun hj => absurd hj hs) fun hL h => by
      have hkept : ZoneKept s.zt.zone (s.zt.zone.map fun y => { y with counting := false }) :=
        zoneKept_map fun y => ⟨rfl, fun hc => (by cases hc), id, id, fun _ hc hp => ⟨hc, hp⟩⟩
      obtain ⟨hzone, hwork, hpair, -, hadopt⟩ := ZoneKept.laws hkept h
      refine ⟨fun y hy => ?_, h.2.1, ⟨hwork.1, fun hrole => ?_⟩, ?_, counting_entered _ _, fun y hy ha => ?_⟩
      · rcases List.mem_append.mp hy with hy | hy
        · exact hzone y hy
        · rw [List.mem_singleton.mp hy]
          exact hz hL
      · obtain ⟨hpress, hheat, hdivert, hrecord⟩ := hwork.2 hrole
        refine ⟨hpress, hheat, hdivert, fun hasked => ?_⟩
        obtain ⟨y, hy, hk⟩ := hrecord hasked
        exact ⟨y, by simp only [State.atWork?, List.find?_append] at hy ⊢; rw [hy]; rfl, hk⟩
      · refine List.pairwise_append.mpr ⟨hpair, List.pairwise_singleton _ _, fun a _ b hb => ?_⟩
        rw [List.mem_singleton.mp hb]
        refine ⟨?_, fun hc => ?_⟩
        · rw [hphase]
          cases a.phase <;> decide
        · rw [hphase] at hc
          cases hc.2
      · rcases List.mem_append.mp hy with hy | hy
        · exact hadopt y hy ha
        · rw [List.mem_singleton.mp hy]
          exact hphase

end Sys2Proof.Machine

/-! ### The pass through the operations

One lemma for each operation of the model, in the model's order. A hypothesis says what the operation may rely on
where it is called: a record at work, a role, a place free. -/

namespace Sys2Proof.Machine

variable {L : Prop}

theorem State.recordsLawful.zone {s : State} (h : s.recordsLawful) : ∀ z ∈ s.zt.zone, z.book.lawful := h.1
theorem State.recordsLawful.incoming {s : State} (h : s.recordsLawful) : ∀ r ∈ s.zt.incoming, r.book.lawful :=
  h.2.1
theorem State.recordsLawful.work {s : State} (h : s.recordsLawful) : s.workLawful := h.2.2.2.1
theorem State.recordsLawful.order {s : State} (h : s.recordsLawful) : s.zoneLawful := h.2.2.2.2.2

/-- A station of another role is not a JACKET station. -/
theorem role_ne_jacket {s : State} {r : Role} (h : s.role = some r) (hr : r ≠ .jacket) :
    s.role ≠ some .jacket := fun hj => hr (Option.some.inj (h.symm.trans hj))

/-- A change of the heat block at a station that is not JACKET. -/
theorem heat_kept_of_role {s : State} (h : HeatShare) (hj : L → s.role ≠ some .jacket) :
    LawsKept L s { s with heat := h } :=
  heat_kept h fun hl _ hr => absurd hr (hj hl)

/-- A change of the work at a station that is not JACKET, with no part asked for that was not. -/
theorem work_kept_of_role {s : State} (w : WorkSequencer) (hp : w.parts = s.work.parts)
    (hq : s.mem.station = .joining → s.zt.zone = [] → s.work = WorkSequencer.atReset →
      w = WorkSequencer.atReset)
    (hj : L → s.role ≠ some .jacket) : LawsKept L s { s with work := w } :=
  work_kept w (fun hs hz _ hw _ => hq hs hz hw) fun hl h =>
    ⟨fun hm => hp.trans (h.work.1 hm), fun hr => absurd hr (hj hl)⟩

/-! #### Stop reasons and the stop set -/

theorem setOwnStop_kept (r : Reasons) (s : State) : LawsKept L s (s.setOwnStop r) := by
  unfold State.setOwnStop
  split
  · refine ((mem_kept { s.mem with ownStop := r } rfl fun _ => rfl).trans (log_kept _ _ _ _)).trans
      (queue_kept _ _ ?_)
    split <;> trivial
  · exact .refl s

theorem setStops_kept (t : Vector Reasons 16) (p : Pos) (s : State) : LawsKept L s (s.setStops t p) := by
  have h : LawsKept L s { s with mem := { s.mem with stopSet := t } } := mem_kept _ rfl fun _ => rfl
  unfold State.setStops
  dsimp only
  split
  · exact (h.trans (latch_kept _ _)).trans (log_kept _ _ _ _)
  · split
    · exact (h.trans (latch_kept _ _)).trans (log_kept _ _ _ _)
    · exact h

theorem setStopEntry_kept (p : Pos) (r : Reasons) (s : State) : LawsKept L s (s.setStopEntry p r) :=
  setStops_kept _ p s

/-! #### The Zone Tracker -/

theorem judgeRoom_kept (s : State) : LawsKept L s s.judgeRoom := by
  unfold State.judgeRoom
  dsimp only
  split
  · exact .refl s
  · have h : LawsKept L s { s with zt := { s.zt with roomOpen := decide ((s.roomMargin : Int) < s.room) } } :=
      zt_lists_kept _ rfl rfl
    split
    · exact (h.trans (queue_kept _ _)).andThen fun _ => zt_lists_kept _ rfl rfl
    · exact h

theorem voidFor_kept (b : BookRecord) (s : State) : LawsKept L s (s.voidFor b) := by
  unfold State.voidFor
  split
  · exact .refl s
  · split
    · exact .refl s
    · exact queue_kept _ _

theorem depart_kept (k : JournalKind) (d : Detail) (b : BookRecord) (s : State) :
    LawsKept L s (s.depart k d b) :=
  ((log_kept _ _ _ s).trans (voidFor_kept _ _)).andThen fun _ => judgeRoom_kept _

theorem drop_kept (k : JournalKind) (d : Detail) (b : BookRecord) (s : State) : LawsKept L s (s.drop k d b) :=
  ((log_kept _ _ _ s).trans (latch_kept _ _)).trans (voidFor_kept _ _)

theorem arrivalUnknown_kept (s : State) : LawsKept L s s.arrivalUnknown :=
  (latch_kept _ s).trans (log_kept _ _ _ _)

theorem lengthFault_kept (tag : W16) (mm : Nat) (s : State) : LawsKept L s (s.lengthFault tag mm) :=
  (latch_kept _ s).trans (log_kept _ _ _ _)

theorem openTimeFault_kept (tag : W16) (s : State) : LawsKept L s (s.openTimeFault tag) :=
  (latch_kept _ s).trans (log_kept _ _ _ _)

/-- A record made anonymous keeps its place. -/
theorem kept_unknown (p : Pos) (z : ZoneRecord) : z.Kept (z.unknown p) :=
  ⟨rfl, id, fun h => absurd rfl h, addMark_lawful _ _, fun _ hc hp => ⟨hc, hp⟩⟩

theorem oldestUnknown_kept (s : State) : LawsKept L s s.oldestUnknown :=
  (zone_kept _ (mapFirst_length _ _ _) fun _ _ => zoneKept_mapFirst fun z _ => kept_unknown s.own z).trans
    (arrivalUnknown_kept _)

theorem noteTaking_kept (b : BookRecord) (s : State) : LawsKept L s (s.noteTaking b) := by
  unfold State.noteTaking
  split
  · exact openTimeFault_kept _ s
  · exact .refl s

/-- An adoption keeps the laws where the record adopted is lawful: an adoptable record is ENTERING (R63). -/
theorem adopt_kept {b : BookRecord} (s : State) (hb : L → b.lawful) :
    LawsKept L s { s with zt.zone := mapFirst ZoneRecord.adoptable (ZoneRecord.adopt b) s.zt.zone } :=
  zone_kept _ (mapFirst_length _ _ _) fun hl h => zoneKept_mapFirst fun z hz => by
    obtain ⟨-, -, hadopt⟩ := h.order
    have hent := hadopt z (List.mem_of_find?_eq_some hz)
      (Option.isSome_iff_ne_none.mp (List.find?_some (p := ZoneRecord.adoptable) hz))
    refine ⟨rfl, id, fun ha => absurd rfl ha, fun _ => withLength_lawful _ (hb hl), fun hw => ?_⟩
    rw [hent] at hw
    cases hw

theorem adoptInto_kept (z : ZoneRecord) {b : BookRecord} (s : State) (hb : L → b.lawful) :
    LawsKept L s (s.adoptInto z b) := by
  have htaken : L → (b.onTaking s.own).lawful := fun hl => onTaking_lawful _ (hb hl)
  unfold State.adoptInto
  dsimp only
  split
  · exact (((adopt_kept s fun hl => addMark_lawful _ _ (htaken hl)).trans (log_kept _ _ _ _)).trans
      (noteTaking_kept _ _)).trans (lengthFault_kept _ _ _)
  · exact ((adopt_kept s htaken).trans (log_kept _ _ _ _)).trans (noteTaking_kept _ _)

theorem placeIncoming_kept {b : BookRecord} {s : State} (hb : L → b.lawful)
    (hfree : s.zt.incoming.length < Config.incomingCap) : LawsKept L s (s.placeIncoming b) := by
  refine LawsKept.trans (zt_kept { s.zt with
    incoming := s.zt.incoming ++ [⟨b.onTaking s.own, s.transitCounts, 0⟩] } rfl ?_ ?_) (noteTaking_kept _ _)
  · intro _
    simpa using hfree
  · intro hl h r hr
    rcases List.mem_append.mp hr with hr | hr
    · exact h.incoming r hr
    · rw [List.mem_singleton.mp hr]
      exact onTaking_lawful _ (hb hl)

/-! #### GATE work -/

theorem beginDivert_kept {s : State} (hr : s.role = some .gate) (hz : s.zt.zone ≠ []) :
    LawsKept L s s.beginDivert :=
  work_kept_of_role _ rfl (fun _ h => absurd h hz) fun _ => role_ne_jacket hr (by decide)

theorem judgeGate_kept {z : ZoneRecord} {s : State} (hr : s.role = some .gate) (hz : s.zt.zone ≠ []) :
    LawsKept L s (s.judgeGate z) := by
  unfold State.judgeGate
  split
  · exact beginDivert_kept hr hz
  · split
    · refine LawsKept.trans ((markAtWork_kept _ s).trans (log_kept _ _ _ _)) (beginDivert_kept hr ?_)
      exact List.ne_nil_of_length_pos (by simpa [State.markAtWork, State.onAtWork, List.length_pos_iff] using hz)
    · exact (markWorked_kept fun _ hj => absurd hj (role_ne_jacket hr (by decide))).trans (port_kept _ id)

/-- No divert is in progress at a JACKET station (R172). -/
theorem role_ne_of_divert {s : State} (h : s.workLawful) (hd : s.work.divert ≠ none) :
    s.role ≠ some .jacket := fun hj => hd (h.2 hj).2.2.1

theorem confirmDivert_kept {z : ZoneRecord} {s : State} (hj : L → s.role ≠ some .jacket) :
    LawsKept L s (s.confirmDivert z) := by
  have herase : LawsKept L s s.removeAtWork :=
    zone_sublist_kept List.eraseP_sublist fun hl hr => absurd hr (hj hl)
  have hwork : LawsKept L s.removeAtWork { s.removeAtWork with work := { s.work with divert := none } } :=
    work_kept_of_role _ rfl (fun _ _ hw => congrArg (fun w : WorkSequencer => { w with divert := none }) hw) hj
  exact ((herase.trans hwork).trans (port_kept { s.port with diverted := s.port.diverted + 1 } id)).trans
    (depart_kept _ _ _ _)

theorem failDivert_kept {s : State} (hj : L → s.role ≠ some .jacket) : LawsKept L s s.failDivert := by
  have hmark := (markAtWork_kept (L := L) .divertFail s).trans
    (onAtWork_kept (f := fun z => { z with divertFailed := true }) _ fun z _ =>
      ⟨rfl, id, id, id, fun _ hc hp => ⟨hc, hp⟩⟩)
  have hdone := hmark.trans (workDone_kept { s.work with divert := none }
    (fun _ hw => congrArg (fun w : WorkSequencer => { w with divert := none }) hw) (fun _ h => h.1)
    fun hl _ hr => absurd hr (hj hl))
  exact LawsKept.andThen (f := fun t => (t.latch .divertFail).log .divertFail s.workTag .none)
    (hdone.trans (setOwnStop_kept _ _)) fun _ => (latch_kept _ _).trans (log_kept _ _ _ _)

/-! #### The magazine -/

/-- The thresholds write their two standings and, through the latches, the port. -/
theorem judgeThresholds_eq (s : State) : s.judgeThresholds = { s with
    parts := { s.parts with
      high := decide (Config.magazineCap - s.parts.magazine.length ≤ s.highOffset)
      low := decide (s.parts.magazine.length ≤ s.lowOffset) }
    port := s.judgeThresholds.port } := by
  unfold State.judgeThresholds
  dsimp only
  split_ifs <;> rfl

/-- The thresholds write no journal entry. -/
@[simp] theorem judgeThresholds_journal (s : State) : s.judgeThresholds.port.journal = s.port.journal := by
  unfold State.judgeThresholds
  dsimp only
  split_ifs <;> rfl

theorem judgeThresholds_kept (s : State) : LawsKept L s s.judgeThresholds := by
  rw [judgeThresholds_eq]
  exact (parts_kept { s.parts with
    high := decide (Config.magazineCap - s.parts.magazine.length ≤ s.highOffset)
    low := decide (s.parts.magazine.length ≤ s.lowOffset) } id id fun _ h => h).trans
    (port_kept _ fun h => by simpa using h)

theorem eraseFirst_length_le {α : Type} (p : α → Bool) (l : List α) : (eraseFirst p l).length ≤ l.length := by
  induction l with
  | nil => exact le_rfl
  | cons x xs ih =>
    unfold eraseFirst
    split
    · exact Nat.le_succ _
    · exact Nat.succ_le_succ ih

/-- What a skip cycle on the head entry `e` writes (R115, R120). -/
theorem startSkip_eq {owned : Bool} {s : State} {e : PartEntry} {rest : List PartEntry}
    (hm : s.parts.magazine = e :: rest) : s.startSkip owned = { s with
      parts := { s.parts with
        magazine := rest, voids := eraseFirst e.equalsVoid s.parts.voids
        high := decide (Config.magazineCap - rest.length ≤ s.highOffset)
        low := decide (rest.length ≤ s.lowOffset) }
      work.cycle := some ⟨.skip, owned, e.arrival, s.cycleMs⟩
      port := (State.judgeThresholds { s with parts.magazine := rest }).port.append .skipped 0
        (.skip e.arrival e.key (s.parts.voids.any e.equalsVoid)) } := by
  unfold State.startSkip State.takeHead
  rw [hm]
  dsimp only
  rw [judgeThresholds_eq]
  rfl

/-- What the marrying cycle on the head entry `e` writes (R116, R167). -/
theorem startMarry_eq {s : State} {e : PartEntry} {rest : List PartEntry}
    (hm : s.parts.magazine = e :: rest) : s.startMarry = { s.marry e.arrival with
      parts := { s.parts with
        magazine := rest
        high := decide (Config.magazineCap - rest.length ≤ s.highOffset)
        low := decide (rest.length ≤ s.lowOffset) }
      work := { s.work with
        parts := .cycling, matchIndex := none
        cycle := some ⟨.marry, true, e.arrival, s.cycleMs⟩ }
      port := (State.judgeThresholds { s with parts.magazine := rest }).port } := by
  unfold State.startMarry State.takeHead
  rw [hm]
  dsimp only
  rw [judgeThresholds_eq]
  rfl

/-- The record at work is cased and pressed (R166). -/
def State.atWorkPressed (s : State) : Prop :=
  ∃ z, s.atWork? = some z ∧ z.book.caseMarriage.isSome ∧ z.book.pressed = true

/-- A change of the magazine work keeps the laws, where at JACKET the record it is for is cased and pressed. -/
theorem partsWork_kept {s : State} {w : WorkSequencer} (hm : s.parts.magazine ≠ [])
    (hw : w.press = s.work.press ∧ w.divert = s.work.divert)
    (hidle : L → s.recordsLawful → s.hasMagazine = false → w.parts = .idle)
    (hj : L → s.recordsLawful → s.role = some .jacket →
      w.parts ≠ .idle ∨ w.cycle.any Cycle.owned = true → s.atWorkPressed) :
    LawsKept L s { s with work := w } :=
  work_kept w (fun _ _ h => absurd h hm) fun hl h => ⟨hidle hl h, fun hr => by
    obtain ⟨hpress, hheat, hdivert, -⟩ := h.work.2 hr
    exact ⟨hw.1.trans hpress, hheat, hw.2.trans hdivert, hj hl h hr⟩⟩

theorem startSkip_kept {owned : Bool} {s : State}
    (h : owned = true → L → s.recordsLawful → s.role = some .jacket → s.atWorkPressed) :
    LawsKept L s (s.startSkip owned) := by
  cases hm : s.parts.magazine with
  | nil =>
    unfold State.startSkip
    rw [hm]
  | cons e rest =>
    rw [startSkip_eq hm]
    have hwork : LawsKept L s { s with work := { s.work with
        cycle := some ⟨.skip, owned, e.arrival, s.cycleMs⟩ } } := by
      refine partsWork_kept (by simp [hm]) ⟨rfl, rfl⟩ (fun _ hr => hr.work.1) fun hl hr hrole hasked => ?_
      rcases hasked with hasked | hasked
      · exact (hr.work.2 hrole).2.2.2 (.inl hasked)
      · exact h (by simpa using hasked) hl hr hrole
    refine (hwork.trans (parts_kept { s.parts with
        magazine := rest, voids := eraseFirst e.equalsVoid s.parts.voids
        high := decide (Config.magazineCap - rest.length ≤ s.highOffset)
        low := decide (rest.length ≤ s.lowOffset) } ?_ ?_ ?_)).trans (port_kept _ fun hc => ?_)
    · intro hc
      simp only [hm, List.length_cons] at hc
      exact (Nat.le_succ _).trans hc
    · exact (eraseFirst_length_le _ _).trans
    · intro _ hnil
      simp [hm] at hnil
    · exact append_journal_length _ _ _ _ (by simpa using hc)

/-- A GOOD record at work that a part may be given to: at JACKET it is cased and pressed. -/
def State.mayMarry (s : State) : Prop :=
  ∃ z, s.atWork? = some z ∧ z.book.verdict = .good ∧
    (s.role = some .jacket → z.book.caseMarriage.isSome ∧ z.book.pressed = true)

/-- A configuration that JOIN accepts has the open time in its range (R35, R116). -/
theorem openTimeDs_le {s : State} (h : s.params.joinable) : s.openTimeDs ≤ 3000 := by
  have hline : s.params.badLine = none := by
    unfold ParamStore.joinable ParamStore.offendingItem at h
    by_contra hbad
    obtain ⟨i, hi⟩ := Option.ne_none_iff_exists'.mp hbad
    rw [hi] at h
    split at h <;> cases h
  have hrange : lineRange 7 s.params.line[(7 : Fin 8)].toNat = true := by
    simpa using List.find?_eq_none.mp hline 7 (List.mem_finRange 7)
  have hmax : s.params.line[(7 : Fin 8)].toNat ≤ 300 := by
    have : within 5 300 s.params.line[(7 : Fin 8)].toNat = true := hrange
    simp only [within, Bool.and_eq_true, decide_eq_true_eq] at this
    exact this.2
  show s.params.line[(7 : Fin 8)].toNat * 10 ≤ 3000
  omega

/-- The marriage keeps the record at work in its place (R116, R167). -/
theorem zoneKept_marry {s : State} (n : Byte) (hs : s.mem.station ≠ .config) (hr : s.recordsLawful)
    (hm : s.mayMarry) (hrole : s.role = some .case ∨ s.role = some .jacket) :
    ZoneKept s.zt.zone (s.marry n).zt.zone :=
  zoneKept_mapFirst fun z hz => by
    obtain ⟨z', hz', hgood, hjacket⟩ := hm
    obtain rfl : z' = z := Option.some.inj (hz'.symm.trans hz)
    obtain ⟨-, -, -, -, hparams, -⟩ := hr
    by_cases hc : s.role = some .case
    · rw [if_pos hc]
      exact ⟨rfl, id, id, fun hb => cased_lawful _ hb hgood (openTimeDs_le (hparams hs)), fun _ _ hp => ⟨rfl, hp⟩⟩
    · rw [if_neg hc]
      obtain ⟨hcase, hpressed⟩ := hjacket (hrole.resolve_left hc)
      exact ⟨rfl, id, id, fun hb => jacketed_lawful _ hb hcase hpressed, fun _ hc hp => ⟨hc, hp⟩⟩

theorem hasMagazine_iff (s : State) : s.hasMagazine = true ↔ s.role = some .case ∨ s.role = some .jacket := by
  unfold State.hasMagazine
  rw [Bool.or_eq_true, beq_iff_eq, beq_iff_eq]

theorem startMarry_kept {s : State} (hs : s.mem.station ≠ .config)
    (h : L → s.recordsLawful → s.mayMarry ∧ (s.role = some .case ∨ s.role = some .jacket)) :
    LawsKept L s s.startMarry := by
  cases hm : s.parts.magazine with
  | nil =>
    unfold State.startMarry
    rw [hm]
  | cons e rest =>
    rw [startMarry_eq hm]
    have hmarry : LawsKept L s { s.marry e.arrival with work := { s.work with
        parts := .cycling, matchIndex := none
        cycle := some ⟨.marry, true, e.arrival, s.cycleMs⟩ } } := by
      refine zt_work_kept (s.marry e.arrival).zt _ (fun hz => (mapFirst_length _ _ _).le.trans hz) id
        (fun _ _ hnil => by cases hm.symm.trans hnil) fun hl hr => ?_
      obtain ⟨hmay, hrole⟩ := h hl hr
      have hkept := zoneKept_marry e.arrival hs hr hmay hrole
      obtain ⟨hbook, -, hord⟩ := ZoneKept.laws hkept hr
      refine ⟨hbook, hr.incoming, ⟨fun hno => ?_, fun hj => ?_⟩, hord⟩
      · exact absurd ((hasMagazine_iff s).mpr hrole) (Bool.eq_false_iff.mp hno)
      · obtain ⟨hpress, hheat, hdivert, -⟩ := hr.work.2 hj
        obtain ⟨z, hz, -, hjacket⟩ := hmay
        obtain ⟨hcase, hpressed⟩ := hjacket hj
        obtain ⟨y, hy, hk⟩ := ZoneKept.atWork hkept hz
        exact ⟨hpress, hheat, hdivert, fun _ => ⟨y, hy, hk.atWork (atWork_phase hz) hcase hpressed⟩⟩
    refine (hmarry.trans (parts_kept { s.parts with
        magazine := rest
        high := decide (Config.magazineCap - rest.length ≤ s.highOffset)
        low := decide (rest.length ≤ s.lowOffset) } ?_ id ?_)).trans (port_kept _ fun hc => ?_)
    · intro hc
      replace hc : s.parts.magazine.length ≤ Config.magazineCap := hc
      rw [hm, List.length_cons] at hc
      exact (Nat.le_succ _).trans hc
    · intro _ hnil
      cases hm.symm.trans hnil
    · rw [judgeThresholds_journal]
      exact hc

end Sys2Proof.Machine

namespace Sys2Proof.Machine

variable {L : Prop}

/-! #### Matching and housekeeping -/

theorem judgeHousekeeping_kept (s : State) : LawsKept L s s.judgeHousekeeping := by
  unfold State.judgeHousekeeping
  split
  · exact startSkip_kept fun h => by cases h
  · exact .refl s

/-- No cycle in progress belongs to the record at work. -/
theorem not_owned_of_none {s : State} (h : s.work.cycle = none) : s.work.cycle.any Cycle.owned = false := by
  rw [h]; rfl

theorem partsDone_kept {s : State} (h : L → s.recordsLawful → s.role = some .jacket →
    s.work.cycle.any Cycle.owned = false) : LawsKept L s s.partsDone := by
  refine LawsKept.trans ?_ (judgeHousekeeping_kept { s.markWorked with
    work := { s.work with parts := .idle, matchIndex := none } })
  by_cases hr : s.recordsLawful
  · exact workDone_kept _ (fun _ hw => by rw [hw]; rfl) (fun _ _ _ => rfl) fun hl hw hj =>
      ⟨(hw.2 hj).1, (hw.2 hj).2.2.1, rfl, h hl hr hj⟩
  · have hk := workDone_kept (L := False) (s := s) { s.work with parts := .idle, matchIndex := none }
      (fun _ hw => by rw [hw]; rfl) (fun hl => hl.elim) fun hl => hl.elim
    exact ⟨hk.params, hk.station, hk.capacity, hk.bus, hk.joining, fun _ h => absurd h hr⟩

theorem noPart_kept {s : State} (h : L → s.role = some .jacket → s.work.cycle.any Cycle.owned = false) :
    LawsKept L s s.noPart :=
  (((markAtWork_kept _ s).trans (latch_kept _ _)).trans (log_kept _ _ _ _)).trans
    (partsDone_kept fun hl _ hj => h hl hj)

/-- A match further on asks for parts in the list. -/
theorem magazine_ne_nil_of_match {s : State} {b : BookRecord} {i : Nat} (h : s.matchAt b = some i) :
    s.parts.magazine ≠ [] := by
  intro hnil
  simp [State.matchAt, hnil] at h

theorem match?_kept {b : BookRecord} {s : State} (hs : s.mem.station ≠ .config)
    (hc : s.work.cycle = none)
    (h : L → s.recordsLawful → s.mayMarry ∧ (s.role = some .case ∨ s.role = some .jacket)) :
    LawsKept L s (s.match? b) := by
  have hno : L → s.role = some .jacket → s.work.cycle.any Cycle.owned = false :=
    fun _ _ => not_owned_of_none hc
  unfold State.match?
  split
  · exact noPart_kept hno
  · split
    · exact noPart_kept hno
    · exact startMarry_kept hs h
    · rename_i i hmatch
      have hpressed : L → s.recordsLawful → s.role = some .jacket → s.atWorkPressed := fun hl hr hj => by
        obtain ⟨⟨z, hz, -, hjacket⟩, -⟩ := h hl hr
        exact ⟨z, hz, hjacket hj⟩
      refine LawsKept.trans (partsWork_kept (w := { s.work with parts := .skipping, matchIndex := some (i + 1) })
        (magazine_ne_nil_of_match hmatch) ⟨rfl, rfl⟩ (fun hl hr hno => ?_) fun hl hr hj _ => hpressed hl hr hj)
        (startSkip_kept fun _ _ hr hj => (hr.work.2 hj).2.2.2 (.inl (by simp)))
      exact absurd ((hasMagazine_iff s).mpr (h hl hr).2) (Bool.eq_false_iff.mp hno)

theorem waitOrMatch_kept {b : BookRecord} {s : State} (hs : s.mem.station ≠ .config)
    (h : s.mayMarry ∧ (s.role = some .case ∨ s.role = some .jacket)) : LawsKept L s (s.waitOrMatch b) := by
  unfold State.waitOrMatch
  split
  next hbusy =>
    refine work_kept _ (fun _ _ _ hw hrd => ?_) fun _ hr => ⟨fun hno => ?_, fun hj => ?_⟩
    · simp [hw, hrd, WorkSequencer.atReset, Reader.atReset] at hbusy
    · exact absurd ((hasMagazine_iff s).mpr h.2) (Bool.eq_false_iff.mp hno)
    · obtain ⟨⟨z, hz, -, hjacket⟩, -⟩ := h
      obtain ⟨hpress, hheat, hdivert, -⟩ := hr.work.2 hj
      exact ⟨hpress, hheat, hdivert, fun _ => ⟨z, hz, hjacket hj⟩⟩
  next hfree =>
    exact match?_kept hs (by simpa using (not_or.mp hfree).1) fun _ _ => h

/-- A verdict that is not REJECT is GOOD. -/
theorem good_of_not_reject {v : Verdict} (h : v ≠ .reject) : v = .good := by
  cases v
  · rfl
  · exact absurd rfl h

theorem judgeCase_kept {z : ZoneRecord} {s : State} (hs : s.mem.station ≠ .config)
    (hz : s.atWork? = some z) (hrole : s.role = some .case) : LawsKept L s (s.judgeCase z) := by
  have hdone : LawsKept L s s.partsDone :=
    partsDone_kept fun _ _ hj => absurd hj (role_ne_jacket hrole (by decide))
  unfold State.judgeCase
  split
  · exact hdone
  next hsound =>
    split
    · exact hdone
    · exact waitOrMatch_kept hs ⟨⟨z, hz, good_of_not_reject fun hv => hsound (.inr hv),
        fun hj => absurd hj (role_ne_jacket hrole (by decide))⟩, .inl hrole⟩

theorem judgeJacket_kept {z : ZoneRecord} {s : State} (hs : s.mem.station ≠ .config)
    (hz : s.atWork? = some z) (hrole : s.role = some .jacket)
    (hno : L → s.work.cycle.any Cycle.owned = false) : LawsKept L s (s.judgeJacket z) := by
  have hdone : LawsKept L s s.partsDone := partsDone_kept fun hl _ _ => hno hl
  unfold State.judgeJacket
  split
  · exact hdone
  next hsound =>
    split
    · exact hdone
    · split
      · exact ((markAtWork_kept _ s).trans (log_kept _ _ _ _)).trans (partsDone_kept fun hl _ _ => hno hl)
      next hcased =>
        split
        · exact ((markAtWork_kept _ s).trans (log_kept _ _ _ _)).trans (partsDone_kept fun hl _ _ => hno hl)
        next hpressed =>
          exact waitOrMatch_kept hs ⟨⟨z, hz, good_of_not_reject fun hv => hsound (.inr hv),
            fun _ => ⟨Option.isSome_iff_ne_none.mpr fun hn => hcased (by simp [hn]), by simpa using hpressed⟩⟩,
            .inr hrole⟩

/-- A record that waits may be given a part: it waits at CASE, or at JACKET cased and pressed (R166). -/
theorem mayMarry_of_asked {s : State} {z : ZoneRecord} (h : s.recordsLawful) (hw : s.work.parts ≠ .idle)
    (hz : s.atWork? = some z) (hv : z.book.verdict ≠ .reject) :
    s.mayMarry ∧ (s.role = some .case ∨ s.role = some .jacket) := by
  refine ⟨⟨z, hz, good_of_not_reject hv, fun hj => ?_⟩, ?_⟩
  · obtain ⟨z', hz', hk⟩ := (h.work.2 hj).2.2.2 (.inl hw)
    obtain rfl : z' = z := Option.some.inj (hz'.symm.trans hz)
    exact hk
  · by_contra hrole
    exact hw (h.work.1 (Bool.eq_false_iff.mpr fun hm => hrole ((hasMagazine_iff s).mp hm)))

theorem afterWait_kept {s : State} (hs : s.mem.station ≠ .config) : LawsKept L s s.afterWait := by
  unfold State.afterWait
  split
  next hwaits =>
    split
    · exact .refl s
    next hfree =>
      have hc : s.work.cycle = none := by simpa using (not_or.mp hfree).1
      split
      · exact .refl s
      next z hz =>
        split
        · exact partsDone_kept fun _ _ _ => not_owned_of_none hc
        next hv =>
          exact match?_kept hs hc fun _ hr => mayMarry_of_asked hr (by rw [hwaits]; decide) hz hv
  · exact judgeHousekeeping_kept s

theorem afterMatchSkip_kept {s : State} (hs : s.mem.station ≠ .config) (hc : s.work.cycle = none)
    (hrole : s.role = some .case ∨ s.role = some .jacket)
    (hj : L → s.role = some .jacket → s.atWorkPressed) : LawsKept L s s.afterMatchSkip := by
  unfold State.afterMatchSkip
  split
  · exact .refl s
  next z hz =>
    split
    · exact partsDone_kept fun _ _ _ => not_owned_of_none hc
    next hv =>
      split
      · exact noPart_kept fun _ _ => not_owned_of_none hc
      · split
        next i hi =>
          refine LawsKept.trans (work_kept { s.work with matchIndex := some (i + 1) } (fun _ _ _ hw _ => ?_)
            fun _ hr => hr.work) (startSkip_kept fun _ hl _ hjr => hj hl hjr)
          rw [hw] at hi
          cases hi
        · refine startMarry_kept hs fun hl _ => ⟨⟨z, hz, good_of_not_reject hv, fun hjr => ?_⟩, hrole⟩
          obtain ⟨z', hz', hk⟩ := hj hl hjr
          obtain rfl : z' = z := Option.some.inj (hz'.symm.trans hz)
          exact hk

/-- The cycle in progress ends. -/
theorem noCycle_kept (s : State) : LawsKept L s { s with work := { s.work with cycle := none } } :=
  work_kept _ (fun _ _ _ hw _ => by rw [hw]; rfl) fun _ hr => ⟨hr.work.1, fun hj => by
    obtain ⟨hpress, hheat, hdivert, hrecord⟩ := hr.work.2 hj
    refine ⟨hpress, hheat, hdivert, fun hasked => hrecord (.inl ?_)⟩
    simpa using hasked⟩

/-- What is known of the record at work where a cycle of its own is in progress at JACKET (R166). -/
theorem atWorkPressed_of_owned {s : State} {c : Cycle} (h : s.recordsLawful) (hc : s.work.cycle = some c)
    (ho : c.owned = true) (hj : s.role = some .jacket) : s.atWorkPressed :=
  (h.work.2 hj).2.2.2 (.inr (by rw [hc]; exact ho))

theorem cycleEnds_kept {c : Cycle} {s : State} (hs : s.mem.station ≠ .config)
    (hrole : s.role = some .case ∨ s.role = some .jacket)
    (hj : L → c.owned = true → s.role = some .jacket → s.atWorkPressed) : LawsKept L s (s.cycleEnds c) := by
  refine (noCycle_kept s).trans ?_
  unfold State.cycleEnds
  dsimp only
  split
  · exact partsDone_kept fun _ _ _ => rfl
  next ho => exact afterMatchSkip_kept hs rfl hrole fun hl => hj hl ho
  · exact afterWait_kept hs

theorem addCycleFault_kept (s : State) : LawsKept L s s.addCycleFault := setOwnStop_kept _ s

@[simp] theorem addCycleFault_work (s : State) : s.addCycleFault.work = s.work := setOwnStop_work _ s

theorem marryTimesOut_kept {c : Cycle} {s : State} (hs : s.isRunning) :
    LawsKept L s (s.marryTimesOut c) := by
  have h := noCycle_kept (L := L) s
  unfold State.marryTimesOut
  dsimp only
  split
  · refine ((h.trans (markAtWork_kept .cycleFault _)).trans (addCycleFault_kept _)).andThen fun _ =>
      (log_kept _ _ _ _).trans (partsDone_kept fun _ _ _ => ?_)
    simp [State.markAtWork, State.onAtWork]
  · have hfault := h.trans (addCycleFault_kept _)
    refine hfault.andThen fun hn => (log_kept _ _ _ _).trans (afterWait_kept ?_)
    rw [log_mem, hfault.station_eq hn, hs]
    decide

/-- Doubt is set and its cause journalled (R119). -/
theorem doubted_kept (d : Detail) (s : State) :
    LawsKept L s { s.log .skipTimeout 0 d with parts := { s.parts with doubt := true } } :=
  (log_kept _ _ d s).trans (parts_kept _ id id fun _ h => h)

theorem skipTimesOut_kept {c : Cycle} {s : State} (hs : s.isRunning) : LawsKept L s (s.skipTimesOut c) := by
  have hfault := (noCycle_kept (L := L) s).trans (addCycleFault_kept _)
  unfold State.skipTimesOut
  refine LawsKept.andThen hfault fun hn => ?_
  dsimp only
  split
  · exact (doubted_kept _ _).trans (noPart_kept fun _ _ => by simp)
  · refine (doubted_kept _ _).trans (afterWait_kept ?_)
    rw [log_mem, hfault.station_eq hn, hs]
    decide

theorem cycleLimit_kept {k : CycleKind} {f : Cycle → State → State} {s : State}
    (h : ∀ c, s.isRunning → LawsKept L s (f c s)) : LawsKept L s (s.cycleLimit k f) := by
  unfold State.cycleLimit
  split
  · split
    next hrun => exact h _ hrun.1
    · exact .refl s
  · exact .refl s

/-! #### Parts that come, and voids -/

/-- The read window opens and ends outside JOINING only. -/
theorem window_kept {s : State} (w : Option Nat) (hs : s.mem.station ≠ .joining) :
    LawsKept L s { s with rd := { s.rd with window := w } } :=
  rd_kept _ fun hj => absurd hj hs

theorem fillWaiting_kept (i : PartId) (s : State) : LawsKept L s (s.fillWaiting i) := by
  refine LawsKept.trans (rd_kept { s.rd with window := none } fun _ hr => by rw [hr]; rfl)
    (parts_kept _ (fun h => ?_) id fun _ h => ?_)
  · simpa using h
  · show List.map _ s.parts.magazine = []
    rw [h]
    rfl

theorem noneWaiting_kept (s : State) :
    LawsKept L s { s with parts := { s.parts with magazine := noneWaiting s.parts.magazine } } :=
  parts_kept _ (fun h => by simpa [noneWaiting] using h) id fun _ h => by simp [noneWaiting, h]

theorem blankWaiting_kept (s : State) : LawsKept L s s.blankWaiting := by
  unfold State.blankWaiting
  split
  · exact .refl s
  · exact (noneWaiting_kept s).trans (log_kept _ _ _ _)

@[simp] theorem blankWaiting_mem (s : State) : s.blankWaiting.mem = s.mem := by
  unfold State.blankWaiting; split <;> rfl

@[simp] theorem blankWaiting_magazine_length (s : State) :
    s.blankWaiting.parts.magazine.length = s.parts.magazine.length := by
  unfold State.blankWaiting
  split
  · rfl
  · simp [noneWaiting]

theorem appendPart_kept {k : Option Key} {f : Option FormatIx} {w : Bool} {s : State}
    (hfree : s.parts.magazine.length < Config.magazineCap) (hs : s.mem.station ≠ .joining) :
    LawsKept L s (s.appendPart k f w) :=
  (parts_kept { s.parts with
      magazine := s.parts.magazine ++ [⟨s.parts.arrival, k, f, w⟩], arrival := s.parts.arrival + 1 }
    (fun _ => by simpa using hfree) id fun hj => absurd hj hs).trans (judgeThresholds_kept _)

theorem magazineOverrun_kept (s : State) : LawsKept L s s.magazineOverrun := by
  have h := (latch_kept (L := L) .magOverrun s).trans (log_kept .magOverrun 0 .none _)
  unfold State.magazineOverrun
  dsimp only
  split
  · exact h
  · exact (h.trans (parts_kept { s.parts with doubt := true } id id fun _ h => h)).trans (setOwnStop_kept _ _)

theorem partArrives_kept {s : State} (hs : s.mem.station ≠ .joining) : LawsKept L s s.partArrives := by
  unfold State.partArrives
  split
  · exact magazineOverrun_kept s
  next hfree =>
    refine LawsKept.trans ?_ (judgeHousekeeping_kept _)
    split
    · exact (rd_kept { s.rd with slot := none } fun hj => absurd hj hs).trans
        (appendPart_kept (by simpa using hfree) hs)
    · refine ((blankWaiting_kept s).trans (window_kept (some s.readWindowMs) (by simpa using hs))).trans
        (appendPart_kept ?_ (by simpa using hs))
      show s.blankWaiting.parts.magazine.length < _
      simpa using hfree

theorem addVoid_kept (v : VoidEntry) (s : State) : LawsKept L s (s.addVoid v) := by
  refine LawsKept.trans (t := { (if s.parts.voids.length < Config.voidCap then s
    else s.log .voidOverflow 0 (.value ((s.parts.voids.head?.map VoidEntry.key).getD 0).toNat)) with
      parts := { s.parts with voids :=
        (if s.parts.voids.length < Config.voidCap then s.parts.voids else s.parts.voids.drop 1) ++ [v] } })
    (LawsKept.trans (parts_kept (s := s) { s.parts with voids :=
        (if s.parts.voids.length < Config.voidCap then s.parts.voids else s.parts.voids.drop 1) ++ [v] }
      id (fun h => ?_) fun _ h => h) ?_) ?_
  · split
    · simpa
    · simp only [List.length_append, List.length_drop, List.length_singleton, Config.voidCap] at *
      omega
  · split
    · exact .refl _
    · exact log_kept _ _ _ _
  · unfold State.addVoid
    split <;> exact judgeHousekeeping_kept _

/-! #### INFEED work and the reader -/

theorem takeId_kept {i : PartId} {s : State} (hr : s.role = some .infeed) : LawsKept L s (s.takeId i) := by
  have hno : s.role ≠ some .jacket := role_ne_jacket hr (by decide)
  have hfill : LawsKept L s (s.onAtWork (ZoneRecord.onBook fun b =>
      { b with key := some i.key, copy := some i.copy, format := s.validFormat i.format })) :=
    onAtWork_kept s fun _ _ => .of_book (identified_lawful _ _ _) rfl id
  unfold State.takeId
  dsimp only
  split
  · exact (hfill.trans (markAtWork_kept _ _)).trans (markWorked_kept fun _ hj => absurd hj hno)
  · exact hfill.trans (markWorked_kept fun _ hj => absurd hj hno)

theorem judgeInfeed_kept {z : ZoneRecord} {s : State} (hr : s.role = some .infeed)
    (hs : s.mem.station ≠ .joining) : LawsKept L s (s.judgeInfeed z) := by
  have hno : s.role ≠ some .jacket := role_ne_jacket hr (by decide)
  have hslot : LawsKept L s { s with rd := { s.rd with slot := none } } := rd_kept _ fun hj => absurd hj hs
  unfold State.judgeInfeed
  split
  · split
    · exact markWorked_kept fun _ hj => absurd hj hno
    · exact (hslot.trans (log_kept _ _ _ _)).trans (markWorked_kept fun _ hj => absurd hj hno)
  · split
    · exact hslot.trans (takeId_kept hr)
    · exact window_kept _ hs

/-- A station that reads IDs is RUNNING (R11). -/
theorem readerOn_iff (s : State) : s.readerOn = true ↔
    s.mem.station = .running ∧ (s.role = some .infeed ∨ s.role = some .case ∨ s.role = some .jacket) := by
  unfold State.readerOn
  rw [Bool.and_eq_true, Bool.or_eq_true, hasMagazine_iff, beq_iff_eq, beq_iff_eq]

theorem deliverId_kept {i : PartId} {s : State} (hs : s.isRunning) : LawsKept L s (s.deliverId i) := by
  have hj : s.mem.station ≠ .joining := by rw [hs]; decide
  unfold State.deliverId
  split
  · split
    next hr => exact (window_kept none hj).trans (takeId_kept hr)
    · exact (fillWaiting_kept i s).trans (afterWait_kept (by show s.mem.station ≠ _; rw [hs]; decide))
  · dsimp only
    split
    · exact rd_kept _ fun h => absurd h hj
    · exact (log_kept _ _ _ s).trans (rd_kept _ fun h => absurd h hj)

theorem readError_kept {s : State} (hs : s.mem.station ≠ .joining) : LawsKept L s s.readError :=
  (rd_kept { s.rd with assembly := [] } fun hj => absurd hj hs).trans (log_kept _ _ _ _)

theorem readByte_kept (r : ReaderByte) (s : State) : LawsKept L s (s.readByte r) := by
  unfold State.readByte
  split
  next hon =>
    have hs : s.isRunning := ((readerOn_iff s).mp hon).1
    have hj : s.mem.station ≠ .joining := by rw [hs]; decide
    have hrd : ∀ r : Reader, LawsKept L s { s with rd := r } := fun r => rd_kept r fun h => absurd h hj
    split
    · split
      · exact hrd _
      · exact .refl s
    · split
      · exact readError_kept hj
      · split
        · exact hrd _
        · split
          · exact readError_kept hj
          · exact (hrd _).trans (deliverId_kept hs)
  · exact .refl s

theorem readBytes_kept (l : List ReaderByte) (s : State) : LawsKept L s (l.foldl State.readByte s) := by
  induction l generalizing s with
  | nil => exact .refl s
  | cons r rest ih => exact (readByte_kept r s).trans (ih _)

theorem windowExpires_kept {s : State} (hs : s.isRunning) : LawsKept L s s.windowExpires := by
  have hwindow : LawsKept L s { s with rd := { s.rd with window := none } } :=
    window_kept none (by rw [hs]; decide)
  unfold State.windowExpires
  dsimp only
  split
  next hr =>
    exact (hwindow.trans (markAtWork_kept _ _)).trans
      (markWorked_kept fun _ hj => absurd hj (role_ne_jacket hr (by decide)))
  · refine (hwindow.trans (blankWaiting_kept _)).trans (afterWait_kept ?_)
    rw [blankWaiting_mem]
    show s.mem.station ≠ _
    rw [hs]
    decide

/-! #### The own claim and bar warmth

At a JACKET station none of these has anything to write: `hj` says that the station is another, or that what would be
asked for is not wanted. -/

theorem queueClaim_kept {c : ClaimClass} {u : ClaimUse} {s : State} (hj : L → s.role ≠ some .jacket) :
    LawsKept L s (s.queueClaim c u) := by
  have h : LawsKept L s (s.queue (.claim c)) := queue_kept _ s
  exact h.andThen fun _ => heat_kept_of_role _ fun hl => by rw [h.role]; exact hj hl

theorem tryPending_kept {s : State} (hj : L → s.role = some .jacket → s.heat.pendingBook = false) :
    LawsKept L s s.tryPending := by
  unfold State.tryPending
  split
  next hp =>
    have hno : L → s.role ≠ some .jacket := fun hl hr => by simp [hj hl hr] at hp
    exact (heat_kept_of_role _ hno).trans (queueClaim_kept hno)
  · exact .refl s

theorem wantsKeepwarm_role {s : State} (h : s.wantsKeepwarm = true) : s.role = some .press := by
  unfold State.wantsKeepwarm at h
  simp only [Bool.and_eq_true, beq_iff_eq] at h
  tauto

theorem judgeKeepwarm_kept (s : State) : LawsKept L s s.judgeKeepwarm := by
  unfold State.judgeKeepwarm
  split
  next h => exact queueClaim_kept fun _ => role_ne_jacket (wantsKeepwarm_role h) (by decide)
  · exact .refl s

theorem claimsOpen_kept {s : State} (hj : L → s.role = some .jacket → s.heat.pendingBook = false) :
    LawsKept L s s.claimsOpen :=
  (tryPending_kept hj).andThen fun _ => judgeKeepwarm_kept _

theorem askBook_kept {s : State} (hj : L → s.role ≠ some .jacket) : LawsKept L s s.askBook := by
  unfold State.askBook
  split
  · exact heat_kept_of_role _ hj
  · split
    · exact queueClaim_kept hj
    · exact heat_kept_of_role _ hj

theorem giveUp_kept {s : State} (hj : L → s.role ≠ some .jacket) : LawsKept L s s.giveUp := by
  have h (n : Notice) (hn : n.lawful) (g : State → HeatShare) :
      LawsKept L s ((s.queue n).andThen fun t => { t with heat := g t }) := by
    have hq := queue_kept (L := L) n s hn
    exact hq.andThen fun _ => heat_kept_of_role _ fun hl => by rw [hq.role]; exact hj hl
  unfold State.giveUp
  split
  · exact h .withdraw trivial fun t => { t.heat with claim := .returning, use := .none, claimWait := none }
  · exact h .withdraw trivial fun t => { t.heat with claim := .returning, use := .none, claimWait := none }
  · exact h .release trivial fun t => { t.heat with claim := .returning, use := .none }
  · exact .refl s
  · exact .refl s

theorem warmBar_kept {s : State} (hj : L → s.role ≠ some .jacket) : LawsKept L s s.warmBar :=
  heat_kept_of_role _ hj

theorem stopWarmTimer_kept {s : State} (hj : L → s.role ≠ some .jacket) : LawsKept L s s.stopWarmTimer :=
  heat_kept_of_role _ hj

theorem claimNone_kept {s : State} (hj : L → s.role ≠ some .jacket) : LawsKept L s s.claimNone :=
  (heat_kept_of_role _ hj).trans (claimsOpen_kept fun hl hr => absurd hr (hj hl))

theorem ownReleased_kept {s : State} (hj : L → s.role ≠ some .jacket) : LawsKept L s s.ownReleased :=
  (heat_kept_of_role _ hj).trans (claimNone_kept hj)

theorem endHoldOff_kept {s : State} (hj : L → s.role ≠ some .jacket) : LawsKept L s s.endHoldOff :=
  (heat_kept_of_role _ hj).trans (claimsOpen_kept fun hl hr => absurd hr (hj hl))

theorem endBurst_kept {s : State} (hj : L → s.role ≠ some .jacket) : LawsKept L s s.endBurst :=
  ((heat_kept_of_role { s.heat with burst := none } hj).trans (warmBar_kept hj)).trans (giveUp_kept hj)

/-! #### Press work -/

theorem finishPress_kept {s : State} (hj : L → s.role ≠ some .jacket) : LawsKept L s s.finishPress :=
  (workDone_kept { s.work with
      press := .idle, book := PressBook.none, heat := none, setLeft := none, suspendLeft := none }
    (fun _ hw => by rw [hw]; rfl) (fun _ h => h.1) fun hl _ hr => absurd hr (hj hl)).trans
    (judgeKeepwarm_kept _)

theorem passPress_kept {s : State} (hj : L → s.role ≠ some .jacket) : LawsKept L s s.passPress :=
  (markWorked_kept fun hl hr => absurd hr (hj hl)).trans (judgeKeepwarm_kept _)

theorem giveUpBook_kept {s : State} (hj : L → s.role ≠ some .jacket) : LawsKept L s s.giveUpBook :=
  (heat_kept_of_role _ hj).trans (giveUp_kept hj)

theorem leaveWait_kept {s : State} (hj : L → s.role ≠ some .jacket) : LawsKept L s s.leaveWait :=
  (giveUpBook_kept hj).andThen fun _ => finishPress_kept fun hl => by
    rw [(giveUpBook_kept (L := L) hj).role]; exact hj hl

theorem afterMark_kept (s : State) : LawsKept L s s.afterMark := by
  unfold State.afterMark
  split
  next h => exact leaveWait_kept fun _ => role_ne_jacket h.1 (by decide)
  · exact .refl s

theorem enterSet_kept {s : State} (hj : L → s.role ≠ some .jacket) : LawsKept L s s.enterSet := by
  unfold State.enterSet
  split
  · exact .refl s
  next z hz =>
    have h : LawsKept L s { s with work := { s.work with
        press := .set, setLeft := some (s.setTimeOf z.book * 100), suspendLeft := none } } :=
      work_kept_of_role _ rfl (fun _ hnil => absurd hnil (zone_ne_nil_of_atWork hz)) hj
    dsimp only
    split
    · exact h.trans (finishPress_kept hj)
    · exact h

theorem beginHeat_kept {n : Nat} {s : State} (hq : s.zt.zone = [] → s.work ≠ WorkSequencer.atReset)
    (hj : L → s.role ≠ some .jacket) : LawsKept L s (s.beginHeat n) := by
  have hwork : LawsKept L s { s with work := { s.work with
      press := .heat, heat := some ⟨n, s.work.book.allowance - s.work.book.credited, 0⟩ } } :=
    work_kept_of_role _ rfl (fun _ hz hw => absurd hw (hq hz)) hj
  exact (hwork.trans (onAtWork_kept _ fun _ _ => .of_book noOpenTime_lawful rfl id)).trans (stopWarmTimer_kept hj)

/-- Press work in progress is not the work that reset leaves. -/
theorem work_ne_atReset {w : WorkSequencer} (h : w.press ≠ .idle) : w ≠ WorkSequencer.atReset :=
  fun hw => h (by rw [hw]; rfl)

end Sys2Proof.Machine

namespace Sys2Proof.Machine

variable {L : Prop}

/-! #### Grants, heat phases and suspensions -/

/-- Going on with what leaves the work leaves it. -/
@[simp] theorem andThen_work {f : State → State} (s : State) (h : ∀ t, (f t).work = t.work) :
    (s.andThen f).work = s.work :=
  andThen_ind (P := fun t => t.work = s.work) s f rfl (h s)

@[simp] theorem giveUp_work (s : State) : s.giveUp.work = s.work := by
  unfold State.giveUp; split <;> simp

theorem grantToBook_kept {s : State} (hj : L → s.role ≠ some .jacket) : LawsKept L s s.grantToBook := by
  unfold State.grantToBook
  split
  next hw =>
    have hne : s.work ≠ WorkSequencer.atReset := work_ne_atReset (by rw [hw]; decide)
    split
    · have hgive := giveUp_kept hj
      refine LawsKept.andThen hgive fun _ => ?_
      have hwork : LawsKept L s.giveUp { s.giveUp with work := { s.giveUp.work with
          book := { s.giveUp.work.book with returned := true } } } :=
        work_kept_of_role _ rfl (fun _ _ hr => absurd ((giveUp_work s).symm.trans hr) hne)
          fun hl => by rw [hgive.role]; exact hj hl
      exact hwork.trans (log_kept _ _ _ _)
    · exact beginHeat_kept (fun _ => hne) hj
  · exact .refl s

theorem grantToKeepwarm_kept {s : State} (hj : L → s.role ≠ some .jacket) :
    LawsKept L s s.grantToKeepwarm := by
  unfold State.grantToKeepwarm
  split
  · exact (giveUp_kept hj).andThen fun _ => log_kept _ _ _ _
  · exact (stopWarmTimer_kept hj).trans (heat_kept_of_role _ hj)

theorem grantEvent_kept {s : State} (hj : L → s.role ≠ some .jacket) : LawsKept L s s.grantEvent := by
  have hasked : LawsKept L s (match s.heat.use with
      | .book => State.grantToBook { s with heat := { s.heat with claim := .holding, claimWait := none } }
      | .keepwarm => State.grantToKeepwarm { s with heat := { s.heat with claim := .holding, claimWait := none } }
      | .none => { s with heat := { s.heat with claim := .holding, claimWait := none } }) := by
    have hheld : LawsKept L s { s with heat := { s.heat with claim := .holding, claimWait := none } } :=
      heat_kept_of_role _ hj
    split
    · exact hheld.trans (grantToBook_kept hj)
    · exact hheld.trans (grantToKeepwarm_kept hj)
    · exact hheld
  unfold State.grantEvent
  split
  · exact hasked
  · exact hasked
  · exact log_kept _ _ _ s
  · exact .refl s
  · exact .refl s

theorem takeBook_kept {b : BookRecord} {f : FormatIx} {s : State} (hz : s.zt.zone ≠ [])
    (hj : L → s.role ≠ some .jacket) : LawsKept L s (s.takeBook b f) := by
  have hwork : ∀ w : WorkSequencer, w.parts = s.work.parts → LawsKept L s { s with work := w } :=
    fun w hp => work_kept_of_role w hp (fun _ h => absurd h hz) hj
  unfold State.takeBook
  dsimp only
  split
  · refine ((hwork { s.work with book := { PressBook.none with
      allowance := min (s.heatTime f - b.heatDone) s.maxHeat } } rfl).trans (heat_kept_of_role _ hj)).trans
      (beginHeat_kept (fun h => absurd h hz) hj)
  · exact (hwork { s.work with
      press := .waitShare
      book := { PressBook.none with allowance := min (s.heatTime f - b.heatDone) s.maxHeat } } rfl).trans
      (askBook_kept hj)

theorem judgePress_kept {z : ZoneRecord} {s : State} (hz : s.zt.zone ≠ []) (hr : s.role = some .press) :
    LawsKept L s (s.judgePress z) := by
  have hj : L → s.role ≠ some .jacket := fun _ => role_ne_jacket hr (by decide)
  unfold State.judgePress
  dsimp only
  split
  · exact passPress_kept hj
  · split
    · exact passPress_kept hj
    · split
      · exact ((markAtWork_kept _ s).trans (log_kept _ _ _ _)).trans (passPress_kept hj)
      · split
        · exact passPress_kept hj
        · exact takeBook_kept hz hj

theorem endHeat_kept {n : Nat} {s : State} (hq : s.work ≠ WorkSequencer.atReset)
    (hj : L → s.role ≠ some .jacket) : LawsKept L s (s.endHeat n) := by
  have hwork : LawsKept L s { s with work := { s.work with
      heat := none, book := { s.work.book with credited := s.work.book.credited + n } } } :=
    work_kept_of_role _ rfl (fun _ _ hw => absurd hw hq) hj
  have hbook := hwork.trans (onAtWork_kept (f := ZoneRecord.onBook (s.credited n)) _ fun _ _ =>
    .of_book (credited_lawful n s) rfl fun hp => by simp [State.credited, hp])
  exact (hbook.trans (warmBar_kept hj)).trans (giveUp_kept hj)

theorem suspendExpired_kept {s : State} (hq : s.work ≠ WorkSequencer.atReset) :
    LawsKept L s s.suspendExpired := by
  have hwork : LawsKept L s { s with work := { s.work with
      suspendLeft := none, book := { s.work.book with suspendReached := true } } } :=
    work_kept _ (fun _ _ _ hw _ => absurd hw hq) fun _ hr => hr.work
  exact ((hwork.trans (markAtWork_kept .dwellBroken _)).trans (latch_kept _ _)).trans (log_kept _ _ _ _)

@[simp] theorem endHeat_press (n : Nat) (s : State) : (s.endHeat n).work.press = s.work.press := by
  unfold State.endHeat
  rw [giveUp_work]
  rfl

theorem suspend_kept {h : HeatPhase} {s : State} (hp : s.work.press ≠ .idle)
    (hj : L → s.role ≠ some .jacket) : LawsKept L s (s.suspend h) := by
  have hend := endHeat_kept (n := h.delivered) (work_ne_atReset hp) hj
  unfold State.suspend
  refine LawsKept.andThen hend fun _ => ?_
  have hne : (s.endHeat h.delivered).work ≠ WorkSequencer.atReset := work_ne_atReset (by rwa [endHeat_press])
  have hwork : LawsKept L (s.endHeat h.delivered) { s.endHeat h.delivered with
      work := { (s.endHeat h.delivered).work with
        press := .suspended, suspendLeft := some (s.endHeat h.delivered).maxSuspendMs } } :=
    work_kept_of_role _ rfl (fun _ _ hw => absurd hw hne) fun hl => by rw [hend.role]; exact hj hl
  have hlog := hwork.trans (log_kept .heatSuspended (s.endHeat h.delivered).workTag (.value h.delivered) _)
  dsimp only
  split
  · exact hlog.trans (suspendExpired_kept (work_ne_atReset (by simp)))
  · exact hlog

/-- A JACKET station has no press work and no heat share (R34). -/
def State.noPress (s : State) : Prop :=
  s.role = some .jacket → s.work.press = .idle ∧ s.heat = HeatShare.atReset

theorem noPress_of_workLawful {s : State} (h : s.workLawful) : s.noPress := fun hj =>
  ⟨(h.2 hj).1, (h.2 hj).2.1⟩

theorem pressGuardOpens_kept {s : State} (h : L → s.noPress) : LawsKept L s s.pressGuardOpens := by
  unfold State.pressGuardOpens
  split
  · split
    next hp =>
      exact suspend_kept (by rw [hp]; decide) fun hl hr => by
        have := (h hl hr).1
        rw [hp] at this
        cases this
    · exact .refl s
  · split
    next hb => exact endBurst_kept fun hl hr => by
                rw [(h hl hr).2] at hb
                cases hb
    · exact .refl s

theorem closeSuspended_kept {z : ZoneRecord} {s : State} (hp : s.work.press ≠ .idle)
    (hj : L → s.role ≠ some .jacket) : LawsKept L s (s.closeSuspended z) := by
  have hwork : LawsKept L s { s with work := { s.work with suspendLeft := none } } :=
    work_kept_of_role _ rfl (fun _ _ hw => absurd hw (work_ne_atReset hp)) hj
  unfold State.closeSuspended
  dsimp only
  split
  · exact finishPress_kept hj
  · have hlog := hwork.trans (log_kept .heatResumed z.book.tag
      (.value (s.work.book.allowance - s.work.book.credited)) _)
    split
    · exact hlog.trans (enterSet_kept hj)
    · exact (hlog.trans (work_kept_of_role { s.work with
        suspendLeft := none, press := .waitShare, book := { s.work.book with resumed := true } } rfl
        (fun _ _ hw => absurd (congrArg WorkSequencer.press hw) hp) hj)).trans (askBook_kept hj)

theorem pressGuardCloses_kept {s : State} (h : L → s.noPress) : LawsKept L s s.pressGuardCloses := by
  have hj : s.work.press ≠ .idle → L → s.role ≠ some .jacket := fun hp hl hr => hp (h hl hr).1
  unfold State.pressGuardCloses
  split
  next hp =>
    have hne : s.work.press ≠ .idle := by rw [hp]; decide
    split
    · exact .refl s
    · exact closeSuspended_kept hne (hj hne)
  next hp =>
    have hne : s.work.press ≠ .idle := by rw [hp]; decide
    split
    · exact (work_kept_of_role { s.work with book := { s.work.book with returned := false } } rfl
        (fun _ _ hw => absurd hw (work_ne_atReset hne)) (hj hne)).trans (askBook_kept (hj hne))
    · exact .refl s
  · exact judgeKeepwarm_kept s
  · exact .refl s
  · exact .refl s

/-! #### The role's work -/

theorem beginWork_kept {s : State} (hs : s.isRunning)
    (hno : L → s.role = some .jacket → s.work.cycle.any Cycle.owned = false) : LawsKept L s s.beginWork := by
  have hc : s.mem.station ≠ .config := by rw [hs]; decide
  unfold State.beginWork
  split
  next hz hr => exact judgeInfeed_kept hr (by rw [hs]; decide)
  next hz hr => exact judgeCase_kept hc hz hr
  next hz hr => exact judgePress_kept (zone_ne_nil_of_atWork hz) hr
  next hz hr => exact judgeJacket_kept hc hz hr fun hl => hno hl hr
  next hz hr => exact judgeGate_kept hr (zone_ne_nil_of_atWork hz)
  · exact .refl s

theorem abandonWork_kept (s : State) : LawsKept L s s.abandonWork := by
  unfold State.abandonWork
  have hparts : LawsKept L s { s with work := { s.work with
      parts := .idle, matchIndex := none, cycle := s.work.cycle.map fun c => { c with owned := false } } } := by
    refine work_kept _ (fun _ _ _ hw _ => by rw [hw]; rfl) fun _ hr => ⟨fun _ => rfl, fun hj => ?_⟩
    obtain ⟨hpress, hheat, hdivert, -⟩ := hr.work.2 hj
    refine ⟨hpress, hheat, hdivert, fun hasked => ?_⟩
    cases hcycle : s.work.cycle <;> simp [hcycle] at hasked
  split
  · exact rd_kept _ fun _ hr => by rw [hr]; rfl
  · exact hparts
  · exact hparts
  next hr =>
    exact work_kept_of_role _ rfl (fun _ _ hw => by rw [hw]; rfl) fun _ => role_ne_jacket hr (by decide)
  · exact .refl s
  · exact .refl s

/-! #### The conveyor -/

theorem eyeOrder_kept (n : Nat) (s : State) : LawsKept L s (s.eyeOrder n) := log_kept _ _ _ s

/-- A change of the eyes and of the length count keeps the laws. -/
theorem eyes_kept (e : Eyes) (s : State) : LawsKept L s { s with zt := { s.zt with eyes := e } } :=
  zt_lists_kept _ rfl rfl

theorem count_kept {s : State} : LawsKept L s s.count := by
  have hzone : LawsKept L s { s with zt := { s.zt with
      zone := s.zt.zone.map fun z => { z with adoption := z.adoption.map (· - 1) } } } :=
    zone_kept _ (List.length_map _) fun _ _ => zoneKept_map fun z =>
      ⟨rfl, id, fun h hn => h (by simp [hn]), id, fun _ hc hp => ⟨hc, hp⟩⟩
  refine (hzone.trans (zt_kept { s.zt with
    zone := s.zt.zone.map fun z => { z with adoption := z.adoption.map (· - 1) }
    incoming := s.zt.incoming.map fun r => { r with transit := r.transit - 1 }
    lengthCount :=
      if s.zt.zone.any ZoneRecord.counting then s.zt.lengthCount + 1 else s.zt.lengthCount } rfl
    (fun h => by simpa using h) fun _ hr r hmem => ?_)).trans
    (work_kept { s.work with divert := s.work.divert.map (· - 1) } (fun _ _ _ hw _ => ?_)
      fun _ hr => ⟨hr.work.1, fun hj => ?_⟩)
  · obtain ⟨r', hr', rfl⟩ := List.mem_map.mp hmem
    exact hr.incoming r' hr'
  · replace hw : s.work = WorkSequencer.atReset := hw
    rw [hw]; rfl
  · obtain ⟨hpress, hheat, hdivert, hrecord⟩ := hr.work.2 hj
    exact ⟨hpress, hheat, by rw [show s.work.divert = none from hdivert]; rfl, hrecord⟩

theorem overrunNoRecord_kept (s : State) : LawsKept L s s.overrunNoRecord :=
  (log_kept _ _ _ s).trans (latch_kept _ _)

theorem zone_free {s : State} (h : ¬ s.zoneFull = true) : s.zt.zone.length < Config.zoneCap := by
  simpa [State.zoneFull] using h

theorem entryInfeed_kept {s : State} (hs : s.mem.station ≠ .joining) : LawsKept L s s.entryInfeed := by
  unfold State.entryInfeed
  split
  · exact overrunNoRecord_kept s
  next hfree =>
    exact ((zt_lists_kept { s.zt with tagCounter := nextTag s.zt.tagCounter } rfl rfl).trans
      (enterZone_kept (zone_free hfree) hs rfl fun _ => created_lawful _)).trans (judgeRoom_kept _)

theorem entryOverrun_kept (s : State) : LawsKept L s s.entryOverrun := by
  unfold State.entryOverrun
  split
  · exact overrunNoRecord_kept s
  next r rest h =>
    refine ((incoming_sublist_kept ?_).trans (drop_kept _ _ _ _)).andThen fun _ => judgeRoom_kept _
    rw [h]
    exact List.sublist_cons_self _ _

theorem provisional_kept {s : State} (hfree : s.zt.zone.length < Config.zoneCap)
    (hs : s.mem.station ≠ .joining) : LawsKept L s s.provisional := by
  unfold State.provisional
  refine LawsKept.andThen (LawsKept.trans ?_ (judgeRoom_kept _)) fun _ => judgeKeepwarm_kept _
  split
  · exact (enterZone_kept hfree hs rfl fun _ => addMark_lawful _ _ (created_lawful 0)).trans
      (arrivalUnknown_kept _)
  · exact enterZone_kept hfree hs rfl fun _ => created_lawful 0

theorem entryOther_kept {s : State} (hl : L → s.recordsLawful) (hs : s.mem.station ≠ .joining) :
    LawsKept L s s.entryOther := by
  unfold State.entryOther
  split
  · exact entryOverrun_kept s
  next hfree =>
    split
    · exact provisional_kept (zone_free hfree) hs
    next r rest h =>
      refine LawsKept.trans (incoming_sublist_kept ?_)
        (enterZone_kept (zone_free hfree) hs rfl fun hL => (hl hL).incoming r ?_)
      · rw [h]
        exact List.sublist_cons_self _ _
      · rw [h]
        exact List.mem_cons_self

theorem entryLeading_kept {s : State} (hl : L → s.recordsLawful) (hs : s.mem.station ≠ .joining) :
    LawsKept L s s.entryLeading := by
  have heyes := eyes_kept (L := L) { s.zt.eyes with entry := true } s
  unfold State.entryLeading
  dsimp only
  split
  · exact heyes.trans (entryInfeed_kept hs)
  · exact heyes.trans (entryOther_kept (fun hL => heyes.records hL (hl hL)) hs)

theorem storeLength_kept {z : ZoneRecord} {s : State} (hz : s.zt.zone.find? ZoneRecord.counting = some z) :
    LawsKept L s (s.storeLength z) := by
  have hstore (b : BookRecord) (hb : z.book.lawful → b.lawful) (hc : b.caseMarriage = z.book.caseMarriage)
      (hp : b.pressed = z.book.pressed) : LawsKept L s { s with zt := { s.zt with
        zone := mapFirst ZoneRecord.counting (fun y => { y with book := b, counting := false }) s.zt.zone } } :=
    zone_kept _ (mapFirst_length _ _ _) fun _ _ => zoneKept_mapFirst fun y hy => by
      obtain rfl : z = y := Option.some.inj (hz.symm.trans hy)
      exact ⟨rfl, fun h => (by cases h), id, hb, fun _ hcase hpressed => ⟨by rwa [hc], by rwa [hp]⟩⟩
  unfold State.storeLength
  dsimp only
  split
  · have hfault (tag : W16) (mm : Nat) := (hstore (BookRecord.addMark .length s.own { z.book with length := some mm })
      (fun h => addMark_lawful _ _ (withLength_lawful _ h)) rfl rfl).trans (lengthFault_kept tag mm _)
    split
    · exact (hfault _ _).trans (afterMark_kept _)
    · exact hfault _ _
  · exact hstore _ (withLength_lawful _) rfl rfl

theorem entryTrailing_kept (s : State) : LawsKept L s s.entryTrailing := by
  have heyes := eyes_kept (L := L) { s.zt.eyes with entry := false } s
  unfold State.entryTrailing
  dsimp only
  split
  next z hz => exact heyes.trans (storeLength_kept hz)
  · exact heyes.trans (eyeOrder_kept _ _)

theorem goMissing_kept (s : State) : LawsKept L s s.goMissing := by
  unfold State.goMissing
  split
  · exact .refl s
  next r rest h =>
    refine ((incoming_sublist_kept ?_).trans (latch_kept _ _)).trans (depart_kept _ _ _ _)
    rw [h]
    exact List.sublist_cons_self _ _

end Sys2Proof.Machine

namespace Sys2Proof.Machine

variable {L : Prop}

/-! #### The work point -/

/-- The oldest ENTERING record goes to work in a list with none at work: the order stands (R57, R67). -/
theorem placed_pairwise {f : ZoneRecord → ZoneRecord} (hf : ∀ z, (f z).phase = .atWork) {l : List ZoneRecord}
    (h : l.Pairwise mayPrecede) (hno : ∀ z ∈ l, z.phase ≠ .atWork) :
    (mapFirst ZoneRecord.isEntering f l).Pairwise mayPrecede := by
  induction l with
  | nil => exact h
  | cons x xs ih =>
    obtain ⟨hx, hxs⟩ := List.pairwise_cons.mp h
    obtain ⟨hnx, hnxs⟩ := List.forall_mem_cons.mp hno
    unfold mapFirst
    by_cases he : x.phase = .entering
    · rw [if_pos (by simpa [ZoneRecord.isEntering] using he)]
      refine List.pairwise_cons.mpr ⟨fun y hy => ⟨?_, fun hc => hnxs y hy hc.2⟩, hxs⟩
      have hrank := (hx y hy).1
      rw [he] at hrank
      rw [hf]
      exact le_trans (by decide) hrank
    · rw [if_neg (by simpa [ZoneRecord.isEntering] using he)]
      have hw : x.phase = .worked := by
        cases hp : x.phase <;> simp_all
      exact List.pairwise_cons.mpr ⟨fun y _ => ⟨by rw [hw]; exact Nat.zero_le _, fun hc => hnx hc.1⟩, ih hxs hnxs⟩

/-- With no record at work every record is ENTERING or WORKED. -/
theorem not_atWork_of_none {s : State} (h : s.atWork? = none) : ∀ z ∈ s.zt.zone, z.phase ≠ .atWork :=
  fun z hz => by simpa using List.find?_eq_none.mp h z hz

/-- With no record at work nothing is asked of the magazine at JACKET (R166). -/
theorem not_owned_of_no_atWork {s : State} (h : s.recordsLawful) (hno : s.atWork? = none)
    (hj : s.role = some .jacket) : s.work.cycle.any Cycle.owned = false := by
  by_contra hc
  obtain ⟨z, hz, -⟩ := (h.work.2 hj).2.2.2 (.inr (by simpa using hc))
  cases hno.symm.trans hz

/-- A record placed at work is known: one that was adoptable has become anonymous (R67). -/
def ZoneRecord.placed (p : Pos) (z : ZoneRecord) : ZoneRecord :=
  (if z.adoptable then z.unknown p else z).toWork

theorem placed_phase (p : Pos) (z : ZoneRecord) : (z.placed p).phase = .atWork := rfl

theorem placed_spec (p : Pos) (z : ZoneRecord) :
    (z.placed p).counting = z.counting ∧ (z.placed p).adoption = none ∧
      (z.book.lawful → (z.placed p).book.lawful) := by
  unfold ZoneRecord.placed
  split
  · exact ⟨rfl, rfl, addMark_lawful _ _⟩
  next h => exact ⟨rfl, by simpa [ZoneRecord.adoptable, ZoneRecord.toWork] using h, id⟩

theorem placeAtWork_kept {z : ZoneRecord} {s : State} (hl : L → s.recordsLawful) (hs : s.isRunning)
    (hno : s.atWork? = none) : LawsKept L s (s.placeAtWork z) := by
  have hplace : LawsKept L s { s with zt := { s.zt with
      zone := mapFirst ZoneRecord.isEntering (ZoneRecord.placed s.own) s.zt.zone } } := by
    refine zt_work_kept _ s.work (fun hz => (mapFirst_length _ _ _).le.trans hz) id
      (fun hj => by rw [hs] at hj; cases hj) fun _ hr => ?_
    obtain ⟨hpair, hcount, hadopt⟩ := hr.order
    refine ⟨fun y hy => ?_, hr.incoming, ⟨hr.work.1, fun hj => ?_⟩,
      placed_pairwise (placed_phase s.own) hpair (not_atWork_of_none hno),
      (counting_mapFirst _ fun x => (placed_spec s.own x).1).le.trans hcount, fun y hy ha => ?_⟩
    · rcases mem_mapFirst _ _ _ _ hy with hy | ⟨x, hx, -, rfl⟩
      · exact hr.zone y hy
      · exact (placed_spec s.own x).2.2 (hr.zone x hx)
    · obtain ⟨hpress, hheat, hdivert, hrecord⟩ := hr.work.2 hj
      refine ⟨hpress, hheat, hdivert, fun hasked => ?_⟩
      obtain ⟨x, hx, -⟩ := hrecord hasked
      cases hno.symm.trans hx
    · rcases mem_mapFirst _ _ _ _ hy with hy | ⟨x, hx, -, rfl⟩
      · exact hadopt y hy ha
      · exact absurd (placed_spec s.own x).2.1 ha
  have hown : L → s.role = some .jacket → s.work.cycle.any Cycle.owned = false :=
    fun hL hj => not_owned_of_no_atWork (hl hL) hno hj
  unfold State.placeAtWork
  dsimp only
  split
  · exact (LawsKept.trans hplace (arrivalUnknown_kept _)).trans (beginWork_kept hs hown)
  · exact LawsKept.trans hplace (beginWork_kept hs hown)

/-- An item that comes unexpected goes to work behind records that are all WORKED (R68). -/
theorem unexpected_kept {s : State} (hl : L → s.recordsLawful) (hs : s.isRunning) (hno : s.atWork? = none)
    (hent : ∀ z ∈ s.zt.zone, z.phase ≠ .entering) : LawsKept L s s.unexpected := by
  have hown : L → s.role = some .jacket → s.work.cycle.any Cycle.owned = false :=
    fun hL hj => not_owned_of_no_atWork (hl hL) hno hj
  unfold State.unexpected
  split
  · exact overrunNoRecord_kept s
  next hfree =>
    have hworked : ∀ z ∈ s.zt.zone, z.phase = .worked := fun z hz => by
      cases hp : z.phase
      · exact absurd hp (hent z hz)
      · exact absurd hp (not_atWork_of_none hno z hz)
      · rfl
    have hplace : LawsKept L s { s with zt := { s.zt with zone := s.zt.zone ++
        [(ZoneRecord.fresh (BookRecord.created 0) .atWork false).unknown s.own] } } := by
      refine zt_work_kept _ s.work (fun _ => by simpa using zone_free hfree) id
        (fun hj => by rw [hs] at hj; cases hj) fun _ hr => ?_
      obtain ⟨hpair, hcount, hadopt⟩ := hr.order
      refine ⟨fun y hy => ?_, hr.incoming, ⟨hr.work.1, fun hj => ?_⟩,
        List.pairwise_append.mpr ⟨hpair, List.pairwise_singleton _ _, fun a ha b _ => ?_⟩, ?_, fun y hy ha => ?_⟩
      · rcases List.mem_append.mp hy with hy | hy
        · exact hr.zone y hy
        · rw [List.mem_singleton.mp hy]
          exact addMark_lawful _ _ (created_lawful 0)
      · obtain ⟨hpress, hheat, hdivert, hrecord⟩ := hr.work.2 hj
        refine ⟨hpress, hheat, hdivert, fun hasked => ?_⟩
        obtain ⟨x, hx, -⟩ := hrecord hasked
        cases hno.symm.trans hx
      · unfold mayPrecede
        rw [hworked a ha]
        exact ⟨Nat.zero_le _, fun hc => by cases hc.1⟩
      · rw [List.filter_append, List.length_append]
        exact hcount
      · rcases List.mem_append.mp hy with hy | hy
        · exact hadopt y hy ha
        · rw [List.mem_singleton.mp hy] at ha
          exact absurd rfl ha
    have hroom := (LawsKept.trans hplace (arrivalUnknown_kept _)).trans (judgeRoom_kept _)
    refine LawsKept.andThen hroom fun hn => beginWork_kept ((hroom.station_eq hn).trans hs) fun hL hj => ?_
    rw [judgeRoom_work]
    exact hown hL (hroom.role.symm.trans hj)

theorem workLeading_kept {s : State} (hl : L → s.recordsLawful) (hs : s.isRunning) :
    LawsKept L s s.workLeading := by
  have heyes := eyes_kept (L := L) { s.zt.eyes with work := true } s
  have hl' : L → State.recordsLawful { s with zt := { s.zt with eyes := { s.zt.eyes with work := true } } } :=
    fun hL => heyes.records hL (hl hL)
  unfold State.workLeading
  dsimp only
  split
  · exact heyes.trans (eyeOrder_kept _ _)
  next hsome =>
    have hno : s.atWork? = none := by simpa using hsome
    split
    · exact heyes.trans (placeAtWork_kept hl' hs hno)
    next hent =>
      exact heyes.trans (unexpected_kept hl' hs hno fun z hz => by
        simpa [ZoneRecord.isEntering] using List.find?_eq_none.mp hent z hz)

theorem onEdge_kept {e : InputEdge} {f g : State → State} {s : State}
    (hf : s.isRunning → LawsKept L s (f s)) (hg : s.isRunning → LawsKept L s (g s)) :
    LawsKept L s (s.onEdge e f g) := by
  unfold State.onEdge
  split
  next hs =>
    cases e
    · exact hf hs
    · exact hg hs
  · exact .refl s

/-! #### The exit and the fourth eye -/

/-- The WORKED head leaves the zone list. -/
theorem headLeaves_kept {s : State} {z : ZoneRecord} {rest : List ZoneRecord} (h : s.zt.zone = z :: rest)
    (hz : z.phase = .worked) : LawsKept L s { s with zt := { s.zt with zone := rest } } := by
  refine zone_sublist_kept (by rw [h]; exact List.sublist_cons_self _ _) fun _ _ => .inr ?_
  unfold State.atWork?
  rw [h, List.find?_cons_of_neg (by rw [hz]; decide)]

theorem exitTrailing_kept {s : State} (hl : L → s.recordsLawful) : LawsKept L s s.exitTrailing := by
  have heyes := eyes_kept (L := L) { s.zt.eyes with exit := false } s
  unfold State.exitTrailing
  dsimp only
  split
  · exact heyes.trans (eyeOrder_kept _ _)
  next z rest h =>
    split
    · exact heyes.trans (eyeOrder_kept _ _)
    next hz =>
      have hleft := heyes.trans (headLeaves_kept h (not_not.mp hz))
      split
      · exact (hleft.trans (port_kept { s.port with retired := s.port.retired + 1 } id)).trans (depart_kept _ _ _ _)
      · have hbook : L → z.book.lawful := fun hL => (hl hL).zone z (by rw [h]; exact List.mem_cons_self)
        unfold State.handOn
        refine LawsKept.andThen (LawsKept.trans hleft ?_) fun _ => judgeRoom_kept _
        dsimp only
        split
        · exact queue_kept_of_lawful _ _ fun hL _ => hbook hL
        · exact drop_kept _ _ _ _

theorem fourthClear_kept (s : State) : LawsKept L s s.fourthClear := eyes_kept _ s

theorem confirmEdge_kept {s : State} (hl : L → s.recordsLawful) : LawsKept L s s.confirmEdge := by
  unfold State.confirmEdge
  split
  next hd _ =>
    exact confirmDivert_kept fun hL => role_ne_of_divert (hl hL).work (by rw [hd]; simp)
  · exact log_kept _ _ _ s

theorem doneEdge_kept {s : State} (hl : L → s.recordsLawful) (hs : s.isRunning) (hm : s.hasMagazine = true) :
    LawsKept L s s.doneEdge := by
  have hdone : LawsKept L s { s with work := { s.work with doneOn := true } } :=
    work_kept _ (fun hj => by rw [hs] at hj; cases hj) fun _ hr => hr.work
  unfold State.doneEdge
  dsimp only
  split
  next c hc =>
    exact hdone.trans (cycleEnds_kept (by show s.mem.station ≠ _; rw [hs]; decide) ((hasMagazine_iff s).mp hm)
      fun hL ho hj => atWorkPressed_of_owned (hl hL) hc ho hj)
  · exact hdone.trans (log_kept _ _ _ _)

/-! #### Frames -/

/-- A frame begun is one of a notice that waits (R20). -/
theorem toSend_spec {s : State} {k : Nat} {n : Notice} (h : s.toSend = some (k, n)) :
    (s.bus.txq[k]?).map (fun e => e.notice.kind) = some n.kind := by
  obtain ⟨k', -, hk⟩ := Option.bind_eq_some_iff.mp h
  obtain ⟨e, he, hn⟩ := Option.map_eq_some_iff.mp hk
  obtain ⟨rfl, rfl⟩ := Prod.mk.inj hn
  rw [he]
  rfl

/-- A change of what the controller drives, counts and has in progress, while attached. -/
theorem frame_kept {s : State} (b : LineBus) (ha : b.attached = s.bus.attached) (hq : b.txq = s.bus.txq)
    (hatt : s.bus.attached = true) (hquiet : b.quiet ≤ Config.quietGap)
    (hf : { s with bus := b }.frameQueued) : LawsKept L s { s with bus := b } where
  params := rfl
  station := .inl rfl
  capacity := by
    rintro ⟨cq, crest⟩
    exact ⟨by rwa [hq], crest⟩
  bus := by
    rintro ⟨hiff, -, -, -, hfail⟩
    exact ⟨by rw [ha]; exact hiff, fun hn => absurd (hiff.mp hatt) hn, hquiet, hf, by rwa [hq]⟩
  joining := id
  records := by
    rintro - ⟨hz, hi, hn, hrest⟩
    exact ⟨hz, hi, by rwa [hq], hrest⟩

theorem beginFrame_kept {k : Nat} {n : Notice} {r : Option Rival} {s : State} (hatt : s.bus.attached = true)
    (hquiet : s.bus.quiet ≤ Config.quietGap)
    (hk : (s.bus.txq[k]?).map (fun e => e.notice.kind) = some n.kind) : LawsKept L s (s.beginFrame k n r) := by
  have hframe (f : Frame) (hf : { s with bus := { s.bus with frame := f } }.frameQueued) :
      LawsKept L s { (if n.kind = .beacon then { s with zt := { s.zt with announced := some s.zt.roomOpen } } else s)
        with bus := { s.bus with frame := f } } := by
    have h : LawsKept L s { s with bus := { s.bus with frame := f } } := frame_kept _ rfl rfl hatt hquiet hf
    split
    · exact h.trans (zt_lists_kept { s.zt with announced := some s.zt.roomOpen } rfl rfl)
    · exact h
  by_cases hb : n.kind = .beacon
  · rw [if_pos hb] at hframe
    unfold State.beginFrame
    rw [if_pos hb]
    split
    next r _ => exact hframe (.losing k n.kind r) hk
    next => exact hframe (.sending k n.kind (s.payload n)) hk
  · rw [if_neg hb] at hframe
    unfold State.beginFrame
    rw [if_neg hb]
    split
    next r _ => exact hframe (.losing k n.kind r) hk
    next => exact hframe (.sending k n.kind (s.payload n)) hk

theorem startFrame_kept {r : Option Rival} {s : State} (hatt : s.bus.attached = true)
    (hf : s.bus.frame = .none) : LawsKept L s (s.startFrame r) := by
  have hzero : LawsKept L s { s with bus := { s.bus with quiet := 0 } } :=
    frame_kept _ rfl rfl hatt (Nat.zero_le _) (by simp [State.frameQueued, hf])
  unfold State.startFrame
  split
  next h => exact hzero.trans (beginFrame_kept hatt (Nat.zero_le _) (toSend_spec h))
  · split
    · exact frame_kept _ rfl rfl hatt (Nat.zero_le _) trivial
    · exact .refl s

/-- Once a frame has ended none is in progress. -/
@[simp] theorem endFrame_frame (d : Drive) (s : State) : (s.endFrame d).bus.frame = .none := rfl

/-- A halt does not look at the queue, which it empties (R17, R25). -/
theorem halt_txq (r : HaltReason) (q : List TxEntry) {s : State} (h : s.isActive) :
    { s with bus := { s.bus with txq := q } }.halt r = s.halt r := by
  have h' : { s with bus := { s.bus with txq := q } }.isActive := h
  unfold State.halt
  rw [if_pos h, if_pos h']

theorem failSend_kept {d : Drive} {k : Nat} {e : TxEntry} {s : State} (hf : s.bus.frame ≠ .none)
    (he : s.bus.txq[k]? = some e) : LawsKept L s (s.failSend d k e) := by
  have hend := endFrame_kept (L := L) d hf
  have hmem : e ∈ s.bus.txq := List.mem_of_getElem? he
  have hset (hc : e.failures + 1 < Config.failureLimit) : LawsKept L s { s.endFrame d with
      bus := { (s.endFrame d).bus with txq := s.bus.txq.set k { e with failures := e.failures + 1 } } } := by
    refine hend.trans (txq_kept _ rfl (by simp) fun x hx => ?_)
    rcases List.mem_or_eq_of_mem_set hx with hx | rfl
    · exact ⟨x, hx, id, id⟩
    · exact ⟨e, hmem, fun _ => hc, id⟩
  unfold State.failSend
  dsimp only
  split
  next hlimit =>
    by_cases ha : s.isActive
    · have hhalt := hend.trans ((log_kept .sendFailed 0 (.pair e.notice.kind.detailCode (e.failures + 1)) _).trans
        (halt_kept .busFault _))
      have heq := halt_txq .busFault (s.bus.txq.set k { e with failures := e.failures + 1 })
        (s := (s.endFrame d).log .sendFailed 0 (.pair e.notice.kind.detailCode (e.failures + 1))) ha
      rw [← heq] at hhalt
      exact hhalt
    · have hoff (t : State) (ht : t.mem = s.mem) : t.halt .busFault = t :=
        halt_of_not_active _ _ (by unfold State.isActive; rw [ht]; exact ha)
      rw [hoff _ (by rfl)]
      suffices hfailed : LawsKept L s { s.endFrame d with
          bus := { (s.endFrame d).bus with txq := s.bus.txq.set k { e with failures := e.failures + 1 } } } from
        hfailed.trans (log_kept _ _ _ _)
      refine ⟨rfl, .inl rfl, ?_, ?_, id, ?_⟩
      · rintro ⟨cq, crest⟩
        exact ⟨by simpa [State.endFrame] using cq, crest⟩
      · rintro ⟨-, hidle, -⟩
        exact absurd (hidle ha).2.1 hf
      · rintro - ⟨hz, hi, hn, hrest⟩
        refine ⟨hz, hi, fun x hx => ?_, hrest⟩
        rcases List.mem_or_eq_of_mem_set hx with hx | rfl
        · exact hn x hx
        · exact hn e hmem
  next hlimit => exact (hset (not_le.mp hlimit)).trans (log_kept _ _ _ _)

theorem failFrame_kept {d : Drive} {k : Nat} {s : State} (hf : s.bus.frame ≠ .none) :
    LawsKept L s (s.failFrame d k) := by
  unfold State.failFrame
  split
  next he => exact failSend_kept hf he
  · exact endFrame_kept d hf

theorem badFrame_kept (n : Nat) (p : Pos) (s : State) : LawsKept L s (s.badFrame n p) := log_kept _ _ _ s

/-! #### The share table -/

theorem applyGrants_kept {g : Granted} {s : State} (hj : L → s.role ≠ some .jacket) :
    LawsKept L s (s.applyGrants g) := by
  have h : LawsKept L s { s with heat := { s.heat with holders := g.holders, waits := g.waits } } :=
    heat_kept_of_role _ hj
  unfold State.applyGrants
  dsimp only
  split
  · exact h.trans (grantEvent_kept hj)
  · exact h

theorem releaseHolder_kept {p : Pos} {s : State} (hj : L → s.role ≠ some .jacket) :
    LawsKept L s (s.releaseHolder p) := applyGrants_kept hj

theorem removeShares_kept {p : Pos} {s : State} (hj : L → s.role ≠ some .jacket) :
    LawsKept L s (s.removeShares p) := by
  have h : LawsKept L s { s with heat := { s.heat with waits := dropWaiting p s.heat.waits } } :=
    heat_kept_of_role _ hj
  unfold State.removeShares
  dsimp only
  split
  · exact h.trans (releaseHolder_kept hj)
  · exact h

theorem peerClaimed_kept {s : State} (hj : L → s.role ≠ some .jacket) : LawsKept L s s.peerClaimed := by
  unfold State.peerClaimed
  split
  · exact endHoldOff_kept hj
  · exact .refl s

theorem applyClaim_kept {p : Pos} {c : ClaimClass} {s : State} (hj : L → s.role ≠ some .jacket) :
    LawsKept L s (s.applyClaim p c) := by
  have hheat (h : HeatShare) : LawsKept L s { s with heat := h } := heat_kept_of_role h hj
  unfold State.applyClaim
  dsimp only
  split
  · have hlog : LawsKept L s (s.protocol p .claim) := log_kept _ _ _ s
    split
    · refine hlog.trans ?_
      unfold State.ownClaimFound
      split
      · exact heat_kept_of_role _ hj
      · exact .refl _
    · exact hlog
  · split
    · split
      · exact (hheat _).trans (grantEvent_kept hj)
      · exact (hheat _).trans (peerClaimed_kept hj)
    · split
      · refine (hheat { s.heat with waits := placeWaiting ⟨p, c⟩ s.heat.waits }).trans ?_
        unfold State.ownClaimWaits
        split
        · exact heat_kept_of_role _ hj
        · exact .refl _
      · exact (hheat _).trans (peerClaimed_kept hj)

theorem ownReturn_kept {p : Pos} {s : State} (hj : L → s.role ≠ some .jacket) :
    LawsKept L s (s.ownReturn p) := by
  unfold State.ownReturn
  split
  · exact ownReleased_kept hj
  · exact .refl s

/-- A holder leaves, and the station's own return follows. -/
theorem releaseThenReturn_kept {p : Pos} {s : State} (hj : L → s.role ≠ some .jacket) :
    LawsKept L s ((s.releaseHolder p).andThen (State.ownReturn p)) := by
  have h := releaseHolder_kept (p := p) hj
  exact h.andThen fun _ => ownReturn_kept fun hl => by rw [h.role]; exact hj hl

theorem applyRelease_kept {p : Pos} {s : State} (hj : L → s.role ≠ some .jacket) :
    LawsKept L s (s.applyRelease p) := by
  unfold State.applyRelease
  split
  · exact releaseThenReturn_kept hj
  · exact (LawsKept.refl s).andThen fun _ => ownReturn_kept hj

theorem applyWithdraw_kept {p : Pos} {s : State} (hj : L → s.role ≠ some .jacket) :
    LawsKept L s (s.applyWithdraw p) := by
  unfold State.applyWithdraw
  split
  · have h : LawsKept L s { s with heat := { s.heat with waits := dropWaiting p s.heat.waits } } :=
      heat_kept_of_role _ hj
    dsimp only
    split
    · exact h.trans (claimNone_kept hj)
    · exact h
  · split
    · exact releaseThenReturn_kept hj
    · split
      · exact claimNone_kept hj
      · exact .refl s

theorem compareShares_kept (p : Pos) (l : List Pos) (w : List WaitEntry) (s : State) :
    LawsKept L s (s.compareShares p l w) := by
  unfold State.compareShares
  split
  · exact (latch_kept _ s).trans (log_kept _ _ _ _)
  · exact .refl s

theorem adoptShares_kept {l : List Pos} {w : List WaitEntry} {s : State} (hj : L → s.role ≠ some .jacket) :
    LawsKept L s (s.adoptShares l w) := by
  have h : LawsKept L s { s with
      heat := { s.heat with holders := l, waits := w }, mem := { s.mem with shareAdopted := true } } :=
    (heat_kept_of_role { s.heat with holders := l, waits := w } hj).trans
      (mem_kept (s := { s with heat := { s.heat with holders := l, waits := w } })
        { s.mem with shareAdopted := true } rfl fun _ => rfl)
  unfold State.adoptShares
  dsimp only
  split
  · exact ((h.trans (heat_kept_of_role { s.heat with
      holders := l, waits := w, claim := .returning, use := .none } hj)).trans (queue_kept _ _)).andThen
      fun _ => log_kept _ _ _ _
  · exact h

end Sys2Proof.Machine

namespace Sys2Proof.Machine

variable {L : Prop}

/-! #### Notices applied

A notice is applied when a frame has completed, so that no frame is in progress and the queue may lose a notice. -/

theorem removeAbsent_kept (p : Pos) {s : State} (hf : s.bus.frame = .none) : LawsKept L s (s.removeAbsent p) :=
  txq_sublist_kept hf List.filter_sublist

theorem restartSilence_kept (p : Pos) (s : State) : LawsKept L s (s.restartSilence p) := by
  unfold State.restartSilence
  split
  · exact .refl s
  · exact mem_kept _ rfl fun _ => rfl

@[simp] theorem restartSilence_bus (p : Pos) (s : State) : (s.restartSilence p).bus = s.bus := by
  unfold State.restartSilence
  split <;> rfl

theorem heard_kept (p : Pos) {s : State} (hf : s.bus.frame = .none) : LawsKept L s (s.heard p) :=
  (removeAbsent_kept p hf).trans (restartSilence_kept p _)

@[simp] theorem heard_frame (p : Pos) (s : State) : (s.heard p).bus.frame = s.bus.frame := by
  unfold State.heard
  rw [restartSilence_bus]
  rfl

/-- A PRESS station that is not foreign to the sender takes its class-1 notice (R127). -/
theorem takesShares_role {s : State} {p : Pos} (h : s.takesShares p = true) : s.role = some .press := by
  unfold State.takesShares at h
  simpa using (Bool.and_eq_true_iff.mp h).1

theorem classOne_kept {p : Pos} {f : State → State} {s : State} (hf : s.bus.frame = .none)
    (h : ∀ t : State, (L → t.role ≠ some .jacket) → LawsKept L t (f t)) : LawsKept L s (s.classOne p f) := by
  unfold State.classOne
  dsimp only
  split
  next hshares =>
    exact (heard_kept p hf).trans (h _ fun _ => role_ne_jacket (takesShares_role hshares) (by decide))
  · exact heard_kept p hf

theorem leaveShares_kept (p : Pos) (s : State) : LawsKept L s (s.leaveShares p) := by
  unfold State.leaveShares
  split
  next hr => exact removeShares_kept fun _ => role_ne_jacket hr (by decide)
  · exact .refl s

theorem setRoomHeard_kept (p : Pos) (o : Bool) (s : State) : LawsKept L s (s.setRoomHeard p o) :=
  zt_lists_kept _ rfl rfl

theorem setMember_kept (p : Pos) (m : Member) (s : State) : LawsKept L s (s.setMember p m) :=
  mem_kept _ rfl fun _ => rfl

theorem stopEffect_kept (p : Pos) (reasons : Byte) {s : State} (hf : s.bus.frame = .none) :
    LawsKept L s (s.stopEffect p reasons) := (heard_kept p hf).trans (setStopEntry_kept _ _ _)

theorem goEffect_kept (p : Pos) {s : State} (hf : s.bus.frame = .none) : LawsKept L s (s.goEffect p) :=
  (heard_kept p hf).trans (setStopEntry_kept _ _ _)

/-- MEMBER_ABSENT is entered for a member that was not absent (R51). -/
theorem noteAbsent_kept (p : Pos) (b : Prop) [Decidable b] (s : State) : LawsKept L s
    (if b then s else (s.latch .memberChange).log .memberAbsent 0 (.value (posNumber p))) := by
  split
  · exact .refl s
  · exact (latch_kept _ s).trans (log_kept _ _ _ _)

theorem declareAbsent_kept (p : Pos) {s : State} (hf : s.bus.frame = .none) :
    LawsKept L s (s.declareAbsent p) := by
  have hframe : (if (s.mem.members[p]).status = .absent then s
      else (s.latch .memberChange).log .memberAbsent 0 (.value (posNumber p))).bus.frame = .none := by
    split <;> exact hf
  have hmember := (noteAbsent_kept (L := L) p ((s.mem.members[p]).status = .absent) s).trans
    ((setMember_kept p { s.mem.members[p] with status := .absent } _).trans (setRoomHeard_kept p false _))
  have hsilence (t : State) : LawsKept L t { t with mem := { t.mem with silence := setAt t.mem.silence p none } } :=
    mem_kept _ rfl fun _ => rfl
  exact (((hmember.trans (hsilence _)).trans (removeAbsent_kept p hframe)).trans (setStopEntry_kept _ _ _)).trans
    (leaveShares_kept _ _)

theorem absentEffect_kept (p : Pos) (q : Byte) {s : State} (hf : s.bus.frame = .none) :
    LawsKept L s (s.absentEffect p q) := by
  unfold State.absentEffect
  dsimp only
  split
  · exact (heard_kept p hf).trans (halt_kept _ _)
  · exact (heard_kept p hf).trans (declareAbsent_kept _ ((heard_frame p s).trans hf))

theorem ownHandover_kept (p : Pos) (b : BookRecord) (s : State) : LawsKept L s (s.ownHandover p b) := by
  unfold State.ownHandover
  dsimp only
  split
  · exact drop_kept _ _ _ s
  · exact .refl s

theorem takeHandover_kept {b : BookRecord} (s : State) (hb : b.lawful) : LawsKept L s (s.takeHandover b) := by
  unfold State.takeHandover
  split
  · exact drop_kept _ _ _ s
  · split
    · exact adoptInto_kept _ s fun _ => hb
    · split
      · exact drop_kept _ _ _ s
      next hfree =>
        exact ((placeIncoming_kept (fun _ => hb) (not_le.mp hfree)).trans (judgeRoom_kept _)).andThen
          fun _ => judgeKeepwarm_kept _

theorem handoverEffect_kept (p : Pos) (t : Byte) (image : RecordImage) {s : State} (hf : s.bus.frame = .none) :
    LawsKept L s (s.handoverEffect p t image) := by
  unfold State.handoverEffect
  dsimp only
  split
  · exact (heard_kept p hf).trans (ownHandover_kept _ _ _)
  · split
    · exact (heard_kept p hf).trans (takeHandover_kept _ (recordOf_lawful image))
    · exact heard_kept p hf

theorem roomEffect_kept (p : Pos) (r : Byte) {s : State} (hf : s.bus.frame = .none) :
    LawsKept L s (s.roomEffect p r) := by
  unfold State.roomEffect
  dsimp only
  split
  · exact heard_kept p hf
  · exact (heard_kept p hf).trans (setRoomHeard_kept _ _ _)

theorem voidEffect_kept (p : Pos) (k : Key) (f l : Byte) {s : State} (hf : s.bus.frame = .none) :
    LawsKept L s (s.voidEffect p k f l) := by
  unfold State.voidEffect
  dsimp only
  split
  · exact heard_kept p hf
  · exact (heard_kept p hf).trans (addVoid_kept _ _)

theorem implicitAbsence_kept (p : Pos) (s : State) : LawsKept L s (s.implicitAbsence p) :=
  (((latch_kept _ s).trans (log_kept _ _ _ _)).trans (setStopEntry_kept _ _ _)).trans (leaveShares_kept _ _)

/-- A latch set under a condition. -/
theorem latchUnless_kept (l : Latch) (b : Prop) [Decidable b] (s : State) :
    LawsKept L s (if b then s else s.latch l) := by
  split
  · exact .refl s
  · exact latch_kept l s

theorem joinFinds_kept (p : Pos) (s : State) : LawsKept L s (s.joinFinds p) := by
  unfold State.joinFinds
  split
  · exact implicitAbsence_kept p s
  · exact implicitAbsence_kept p s
  · exact (latchUnless_kept _ _ s).trans (log_kept _ _ _ _)
  · exact (latchUnless_kept _ _ s).trans (log_kept _ _ _ _)

theorem startWindow_kept (p : Pos) (s : State) : LawsKept L s (s.startWindow p) := by
  unfold State.startWindow
  split
  · exact mem_kept _ rfl fun _ => rfl
  · exact .refl s

theorem joinEffect_kept (p : Pos) (r : Byte) (d : W16) {s : State} (hf : s.bus.frame = .none) :
    LawsKept L s (s.joinEffect p r d) := by
  unfold State.joinEffect
  split
  · exact halt_kept _ s
  · exact ((removeAbsent_kept p hf).trans (joinFinds_kept _ _)).andThen fun _ =>
      (((setMember_kept _ _ _).trans (setRoomHeard_kept _ _ _)).trans (restartSilence_kept _ _)).trans
        (startWindow_kept _ _)

theorem adoptStops_kept (p : Pos) (c : BeaconContent) (s : State) : LawsKept L s (s.adoptStops p c) := by
  unfold State.adoptStops
  split
  · exact .refl s
  · exact (setStops_kept _ _ s).trans (mem_kept _ rfl fun _ => rfl)

theorem adoptTable_kept (c : BeaconContent) (s : State) : LawsKept L s (s.adoptTable c) := by
  unfold State.adoptTable
  split
  · exact .refl s
  · split
    next h => exact adoptShares_kept fun _ => role_ne_jacket h.1 (by decide)
    · exact .refl s

theorem compareTable_kept (p : Pos) (c : BeaconContent) (s : State) : LawsKept L s (s.compareTable p c) := by
  unfold State.compareTable
  split
  · exact .refl s
  · split
    · exact compareShares_kept _ _ _ s
    · exact .refl s

theorem beaconTells_kept (p : Pos) (c : BeaconContent) (s : State) : LawsKept L s (s.beaconTells p c) := by
  unfold State.beaconTells
  dsimp only
  split
  · exact ((setRoomHeard_kept p c.room s).trans (adoptStops_kept _ _ _)).trans (adoptTable_kept _ _)
  · exact (setRoomHeard_kept p c.room s).trans (compareTable_kept _ _ _)

theorem beaconEffect_kept (p : Pos) (payload : List Byte) {s : State} (hf : s.bus.frame = .none) :
    LawsKept L s (s.beaconEffect p payload) := by
  have hmember (m : Member) : LawsKept L s (((s.removeAbsent p).setMember p m).restartSilence p) :=
    ((removeAbsent_kept p hf).trans (setMember_kept _ _ _)).trans (restartSilence_kept _ _)
  unfold State.beaconEffect
  dsimp only
  split
  · exact halt_kept _ s
  · split
    · exact hmember _
    · exact (hmember _).trans (beaconTells_kept _ _ _)

theorem receive_kept {p : Pos} {k : NoticeKind} {payload : List Byte} {f : State → State} {s : State}
    (h : ∀ t : State, t.bus.frame = .none → LawsKept L t (f t)) : LawsKept L s (s.receive p k payload f) := by
  unfold State.receive
  split
  · exact .refl s
  next hon =>
    obtain ⟨-, hf⟩ := not_or.mp hon
    have hend : LawsKept L s (s.endFrame .none) := endFrame_kept _ hf
    dsimp only
    split
    next place _ =>
      exact (hend.trans (txq_sublist_kept (s := s.endFrame .none) rfl (List.eraseIdx_sublist _ place))).trans (h _ rfl)
    · split
      · exact hend.trans (halt_kept _ _)
      · split
        · exact hend
        · exact hend.trans (h _ rfl)

end Sys2Proof.Machine

namespace Sys2Proof.Machine

variable {L : Prop}

/-! #### The station port -/

/-- Clocking bits out of a read leaves the journal or takes entries from its head (R191). -/
theorem shiftJournal_journal_length (fuel n : Nat) (p : PortUnit) :
    (p.shiftJournal fuel n).journal.length ≤ p.journal.length := by
  induction fuel generalizing n p with
  | zero => exact le_rfl
  | succ k ih =>
    unfold PortUnit.shiftJournal
    split
    · exact le_rfl
    · exact le_rfl
    next heq _ =>
      obtain rfl := Nat.succ.inj heq
      split
      · exact le_rfl
      · refine (ih _ _).trans ?_
        unfold PortUnit.shiftEntry
        dsimp only
        split
        all_goals split
        all_goals simp

theorem clock_journal_length (n : Nat) (p : PortUnit) : (p.clock n).journal.length ≤ p.journal.length := by
  unfold PortUnit.clock
  split
  · exact le_rfl
  · split
    · unfold PortUnit.shiftLatches
      split <;> exact le_rfl
    · exact shiftJournal_journal_length _ _ p
    all_goals exact le_rfl

theorem openPort_kept (s : State) : LawsKept L s s.openPort := port_kept _ id

theorem releasePort_kept (s : State) : LawsKept L s s.releasePort := port_kept _ id

theorem beginRead_kept (c : PortRead) (s : State) : LawsKept L s (s.beginRead c) := port_kept _ id

theorem clockRead_kept (n : Nat) (s : State) : LawsKept L s (s.clockRead n) :=
  port_kept _ (clock_journal_length n s.port).trans

theorem read_kept (c : PortRead) (n : Nat) (released : Bool) (s : State) :
    LawsKept L s (s.read c n released) := by
  have hbegun : LawsKept L s
      ((if s.port.reading.any fun r => r.command == c then s else s.beginRead c).clockRead n) := by
    split
    · exact clockRead_kept n s
    · exact (beginRead_kept c s).trans (clockRead_kept n _)
  unfold State.read
  dsimp only
  split
  · exact hbegun.trans (releasePort_kept _)
  · exact hbegun

theorem brokenRead_kept (bytes : List Byte) (n : Nat) (s : State) : LawsKept L s (s.brokenRead bytes n) := by
  unfold State.brokenRead
  split
  · exact (beginRead_kept _ s).trans (clockRead_kept _ _)
  · exact openPort_kept s

theorem openAnswer_kept (r : PortResult) (s : State) : LawsKept L s (s.openPort.answer r) :=
  (openPort_kept s).trans (answer_kept _ _)

/-- An erasure of the oldest record with a property leaves the record at work, where that is another one. -/
theorem find?_eraseP_of_ne {p q : ZoneRecord → Bool} {l : List ZoneRecord} {z : ZoneRecord}
    (hz : l.find? p = some z) (hq : q z = false) : (l.eraseP p).find? q = l.find? q := by
  induction l with
  | nil => cases hz
  | cons x xs ih =>
    by_cases hx : p x = true
    · obtain rfl : x = z := by simpa [hx] using hz
      rw [List.eraseP_cons_of_pos hx, List.find?_cons_of_neg (by simp [hq])]
    · have hz' : xs.find? p = some z := by simpa [hx] using hz
      rw [List.eraseP_cons_of_neg hx, List.find?_cons, List.find?_cons, ih hz']

/-- Abandoning the work does not look at the lists. -/
theorem abandonWork_of_zone (l : List ZoneRecord) (s : State) :
    { s with zt := { s.zt with zone := l } }.abandonWork =
      { s.abandonWork with zt := { s.abandonWork.zt with zone := l } } := by
  unfold State.abandonWork State.role
  dsimp only
  split <;> rfl

/-- Once the work is abandoned nothing is asked of the magazine at JACKET. -/
theorem abandonWork_noPartAsked {s : State} (hj : s.role = some .jacket) : s.abandonWork.noPartAsked := by
  unfold State.abandonWork
  rw [hj]
  refine ⟨rfl, ?_⟩
  show (s.work.cycle.map fun c => { c with owned := false }).any Cycle.owned = false
  cases s.work.cycle <;> rfl

theorem purgeZone_kept {tag : W16} {z : ZoneRecord} {s : State} (hz : s.purgeZone? tag = some z) :
    LawsKept L s (s.purgeZone tag z) := by
  unfold State.purgeZone
  refine LawsKept.trans ?_ (depart_kept _ _ _ _)
  split
  · rw [abandonWork_of_zone]
    refine (abandonWork_kept s).trans (zone_sublist_kept ?_ fun _ hj => .inl ?_)
    · rw [abandonWork_zt]
      exact List.eraseP_sublist
    · exact abandonWork_noPartAsked ((abandonWork_kept (L := L) s).role ▸ hj)
  next hp =>
    exact zone_sublist_kept List.eraseP_sublist fun _ _ => .inr (find?_eraseP_of_ne hz (by simpa using hp))

theorem purgeIncoming_kept (tag : W16) (r : IncomingRecord) (s : State) :
    LawsKept L s (s.purgeIncoming tag r) :=
  (incoming_sublist_kept List.eraseP_sublist).trans (depart_kept _ _ _ _)

theorem clearMagazine_kept {s : State} (hs : s.mem.station ≠ .config) : LawsKept L s s.clearMagazine := by
  have hparts : LawsKept L s { s with
      parts := { s.parts with magazine := [], doubt := false }, rd := { s.rd with window := none } } :=
    (parts_kept { s.parts with magazine := [], doubt := false } (fun _ => Nat.zero_le _) id fun _ _ => rfl).trans
      (rd_kept { s.rd with window := none } fun _ hr => by
        have hr' : s.rd = Reader.atReset := hr
        rw [hr']
        rfl)
  have hclear := hparts.trans (setOwnStop_kept { s.mem.ownStop with magOverrun := false } _)
  unfold State.clearMagazine
  refine LawsKept.andThen hclear fun hn =>
    ((judgeThresholds_kept _).trans (log_kept _ _ _ _)).trans (afterWait_kept ?_)
  rw [log_mem, judgeThresholds_eq]
  exact fun hc => hs ((hclear.station_eq hn).symm.trans hc)

end Sys2Proof.Machine

namespace Sys2Proof.Machine

variable {L : Prop}

/-! #### Timers -/

theorem when_kept {p : Prop} [Decidable p] {f : State → State} {s : State} (h : p → LawsKept L s (f s)) :
    LawsKept L s (s.when p f) := by
  unfold State.when
  split
  next hp => exact h hp
  · exact .refl s

theorem silenceExpires_kept (p : Pos) (s : State) : LawsKept L s (s.silenceExpires p) := by
  have hmem : LawsKept L s { s with mem := { s.mem with silence := setAt s.mem.silence p none } } :=
    mem_kept _ rfl fun _ => rfl
  unfold State.silenceExpires
  dsimp only
  split
  · exact hmem
  · exact hmem.trans (queue_kept _ _)

theorem beaconExpires_kept {s : State} (hs : s.isRunning) : LawsKept L s s.beaconExpires := by
  have hmem : LawsKept L s { s with mem := { s.mem with beaconTimer := some s.beaconPeriod } } :=
    mem_kept _ rfl fun hj => by rw [hs] at hj; cases hj
  unfold State.beaconExpires
  dsimp only
  split
  · exact hmem
  · exact hmem.trans (queue_kept _ _)

theorem zoneTimeOut_kept {i : Nat} {z : ZoneRecord} {s : State} (hz : s.zt.zone[i]? = some z) :
    LawsKept L s (s.zoneTimeOut i z) := by
  have hmark : LawsKept L s { s with zt := { s.zt with
      zone := s.zt.zone.set i (z.onBook (BookRecord.outOfTime s.own)) } } :=
    zone_kept _ (by simp) fun _ _ => zoneKept_set hz (kept_addMark .openTime s.own z)
  have hfault := hmark.trans (openTimeFault_kept z.book.tag _)
  unfold State.zoneTimeOut
  dsimp only
  split
  · exact hfault.trans (afterMark_kept _)
  · exact hfault

theorem incomingTimeOut_kept {i : Nat} {r : IncomingRecord} {s : State} (hi : s.zt.incoming[i]? = some r) :
    LawsKept L s (s.incomingTimeOut i r) := by
  refine LawsKept.trans (zt_kept { s.zt with
    incoming := s.zt.incoming.set i { r with book := r.book.outOfTime s.own } } rfl ?_ ?_) (openTimeFault_kept _ _)
  · simp
  · intro _ hr y hy
    rcases List.mem_or_eq_of_mem_set hy with hy | rfl
    · exact hr.incoming y hy
    · exact addMark_lawful _ _ (hr.incoming r (List.mem_of_getElem? hi))

/-- A JACKET station has no heat share of its own (R34). -/
theorem role_ne_of_heat {s : State} (h : s.recordsLawful) (hh : s.heat ≠ HeatShare.atReset) :
    s.role ≠ some .jacket := fun hj => hh (h.work.2 hj).2.1

/-- A JACKET station has no press work (R34). -/
theorem role_ne_of_press {s : State} (h : s.recordsLawful) (hp : s.work.press ≠ .idle) :
    s.role ≠ some .jacket := fun hj => hp (h.work.2 hj).1

theorem starve_kept {s : State} (hj : L → s.role ≠ some .jacket) : LawsKept L s s.starve := by
  have hup := giveUp_kept hj
  unfold State.starve
  refine LawsKept.andThen hup fun _ => ?_
  dsimp only
  have hlog (t : State) (tag : W16) (d : Detail) : LawsKept L t ((t.latch .claimStarved).log .claimStarved tag d) :=
    (latch_kept _ t).trans (log_kept _ _ _ _)
  split
  · have hmarked := (hlog s.giveUp s.workTag (.pair s.waitClass.code s.heat.use.code)).trans
      (markAtWork_kept .heatStarved _)
    exact hmarked.trans (finishPress_kept fun hl => by rw [hmarked.role, hup.role]; exact hj hl)
  · exact hlog _ _ _

theorem fallDue_kept {n : Nat} {s : State} (hj : L → s.role ≠ some .jacket) : LawsKept L s (s.fallDue n) :=
  (heat_kept_of_role _ hj).trans (judgeKeepwarm_kept _)

theorem goCold_kept {s : State} (hj : L → s.role ≠ some .jacket) : LawsKept L s s.goCold := by
  have hcold : LawsKept L s { s with heat := { s.heat with warm := false, warmLeft := none, due := false } } :=
    heat_kept_of_role _ hj
  unfold State.goCold
  dsimp only
  split
  · exact (hcold.trans (giveUp_kept hj)).andThen fun _ => log_kept _ _ _ _
  · exact hcold

theorem noteHeated_kept (s : State) : LawsKept L s s.noteHeated := by
  unfold State.noteHeated
  split
  · exact .refl s
  · split <;> exact log_kept _ _ _ s

theorem finishHeat_kept {h : HeatPhase} {s : State} (hp : s.work.press ≠ .idle)
    (hj : L → s.role ≠ some .jacket) : LawsKept L s (s.finishHeat h) := by
  have hend := endHeat_kept (n := h.book) (work_ne_atReset hp) hj
  refine hend.andThen fun _ => LawsKept.trans (noteHeated_kept _) (enterSet_kept fun hl => ?_)
  rw [(noteHeated_kept (L := L) _).role, hend.role]
  exact hj hl

@[simp] theorem setOwnStop_role (r : Reasons) (s : State) : (s.setOwnStop r).role = s.role := by
  unfold State.role
  rw [setOwnStop_params]

/-- The own stop reasons do not bear on press work. -/
theorem setOwnStop_noPress (r : Reasons) {s : State} (h : s.noPress) : (s.setOwnStop r).noPress := by
  unfold State.noPress
  rwa [setOwnStop_role, setOwnStop_work, setOwnStop_heat]

theorem guardOpened_kept {s : State} (h : L → s.noPress) : LawsKept L s s.guardOpened := by
  have hmem : LawsKept L s { s with mem := { s.mem with guardOpen := true } } := mem_kept _ rfl fun _ => rfl
  exact (hmem.trans (setOwnStop_kept _ _)).andThen fun _ =>
    pressGuardOpens_kept fun hl => setOwnStop_noPress _ (h hl)

theorem guardClosed_kept {s : State} (h : L → s.noPress) : LawsKept L s s.guardClosed := by
  have hmem : LawsKept L s { s with mem := { s.mem with guardOpen := false } } := mem_kept _ rfl fun _ => rfl
  exact (hmem.trans (setOwnStop_kept _ _)).andThen fun _ =>
    pressGuardCloses_kept fun hl => setOwnStop_noPress _ (h hl)

/-! #### The part's own clock -/

/-- An open time that runs stays and does not grow (R81, R89). -/
theorem runOpenTime_spec (t : Option Nat) (n : Nat) :
    ((runOpenTime t n).1.isSome → t.isSome) ∧ (runOpenTime t n).1.getD 0 ≤ t.getD 0 := by
  unfold runOpenTime
  split
  · exact ⟨id, le_rfl⟩
  · exact ⟨id, le_rfl⟩
  · split <;> simp

theorem runQueuedTime_spec (t : Option Nat) (n : Nat) :
    ((runQueuedTime t n).1.isSome → t.isSome) ∧ (runQueuedTime t n).1.getD 0 ≤ t.getD 0 := by
  unfold runQueuedTime
  split
  next h => simp [h]
  · exact runOpenTime_spec t n

theorem kept_runMs (z : ZoneRecord) : z.Kept z.runMs :=
  ⟨rfl, id, id, fun h => withOpenTime_lawful h (runOpenTime_spec _ _).1 (runOpenTime_spec _ _).2, fun _ hc hp => ⟨hc, hp⟩⟩

/-- A queued notice whose open time moves on: it keeps its kind and its failures, and stays lawful. -/
def TxEntry.Kept (a b : TxEntry) : Prop :=
  b.notice.kind = a.notice.kind ∧ b.failures = a.failures ∧ (a.notice.lawful → b.notice.lawful)

theorem txKept_runMs (e : TxEntry) : e.Kept e.runMs := by
  unfold TxEntry.runMs
  split
  next h =>
    refine ⟨by rw [h]; rfl, rfl, ?_⟩
    rw [h]
    exact fun hl => withOpenTime_lawful hl (runQueuedTime_spec _ _).1 (runQueuedTime_spec _ _).2
  · exact ⟨rfl, rfl, id⟩

theorem txKept_endOpenTime (e : TxEntry) : e.Kept e.endOpenTime := by
  unfold TxEntry.endOpenTime
  split
  next h =>
    split
    next hover =>
      refine ⟨by rw [h]; rfl, rfl, ?_⟩
      rw [h] at hover ⊢
      simp only [Notice.lastStepOver, Bool.and_eq_true, beq_iff_eq] at hover
      exact fun hl => withOpenTime_lawful hl (fun _ => by rw [hover.1]; rfl) (Nat.zero_le _)
    · exact ⟨rfl, rfl, id⟩
  · exact ⟨rfl, rfl, id⟩

/-- The notices of the queue move on in their places, and what the controller drives may end. -/
theorem txq_map_kept {f : TxEntry → TxEntry} {s : State} (d : Drive) (hd : s.bus.drive = .none → d = .none)
    (hf : ∀ e : TxEntry, e.Kept (f e)) :
    LawsKept L s { s with bus := { s.bus with txq := s.bus.txq.map f, drive := d } } where
  params := rfl
  station := .inl rfl
  capacity := by
    rintro ⟨cq, crest⟩
    exact ⟨by simpa using cq, crest⟩
  bus := by
    rintro ⟨hatt, hidle, hquiet, hframe, hfail⟩
    refine ⟨hatt, fun hn => ?_, hquiet, ?_, fun e he => ?_⟩
    · obtain ⟨hq, hnone, hdrive⟩ := hidle hn
      exact ⟨by simp [hq], hnone, hd hdrive⟩
    · have hkind (i : Nat) : ((s.bus.txq.map f)[i]?).map (fun e => e.notice.kind)
          = (s.bus.txq[i]?).map (fun e => e.notice.kind) := by
        rw [List.getElem?_map, Option.map_map]
        exact congrArg (Option.map · _) (funext fun e => (hf e).1)
      unfold State.frameQueued at hframe ⊢
      simp only [hkind]
      exact hframe
    · obtain ⟨x, hx, rfl⟩ := List.mem_map.mp he
      rw [(hf x).2.1]
      exact hfail x hx
  joining := id
  records := by
    rintro - ⟨hz, hi, hn, hrest⟩
    refine ⟨hz, hi, fun e he => ?_, hrest⟩
    obtain ⟨x, hx, rfl⟩ := List.mem_map.mp he
    exact (hf x).2.2 (hn x hx)

theorem endQueuedTimes_kept (s : State) : LawsKept L s s.endQueuedTimes :=
  txq_map_kept s.bus.drive id txKept_endOpenTime

/-- A cycle runs on, whoever it belongs to. -/
theorem runCycle_owned (o : Option Cycle) :
    (o.map fun c => { c with left := c.left - 1 }).any Cycle.owned = o.any Cycle.owned := by
  cases o <;> rfl

/-- The timers of the Membership Unit run on. -/
theorem memTimers_kept (s : State) : LawsKept L s { s with mem := { s.mem with
    silence := s.mem.silence.map runMs
    joinWindow := runMs s.mem.joinWindow
    beaconTimer := runMs s.mem.beaconTimer } } where
  params := rfl
  station := .inl rfl
  capacity := id
  bus := id
  joining := by
    intro h hj
    obtain ⟨hz, hm, hw, hr, ht⟩ := h hj
    exact ⟨hz, hm, hw, hr, congrArg runMs ht⟩
  records := fun _ => id

/-- Open time runs on in both lists. -/
theorem listTimers_kept (s : State) : LawsKept L s { s with zt := { s.zt with
    zone := s.zt.zone.map ZoneRecord.runMs
    incoming := s.zt.incoming.map IncomingRecord.runMs } } := by
  have hzone : LawsKept L s { s with zt := { s.zt with zone := s.zt.zone.map ZoneRecord.runMs } } :=
    zone_kept _ (by simp) fun _ _ => zoneKept_map kept_runMs
  refine hzone.trans (zt_kept (s := { s with zt := { s.zt with zone := s.zt.zone.map ZoneRecord.runMs } }) _ rfl ?_ ?_)
  · simp
  · intro _ hr y hy
    obtain ⟨x, hx, rfl⟩ := List.mem_map.mp hy
    exact withOpenTime_lawful (hr.incoming x hx) (runOpenTime_spec _ _).1 (runOpenTime_spec _ _).2

/-- The timers of the work run on. -/
theorem workTimers_kept (s : State) : LawsKept L s { s with work := { s.work with
    cycle := s.work.cycle.map fun c => { c with left := c.left - 1 }
    heat := s.work.heat.map fun h => { h with elapsed := h.elapsed + 1 }
    setLeft := runMs s.work.setLeft
    suspendLeft := runMs s.work.suspendLeft } } :=
  work_kept _ (fun _ _ _ hw _ => by rw [hw]; rfl) fun _ hr => by
    refine ⟨hr.work.1, fun hj => ?_⟩
    obtain ⟨hpress, hheat, hdivert, hrecord⟩ := hr.work.2 hj
    exact ⟨hpress, hheat, hdivert, fun hasked => hrecord (hasked.imp_right (runCycle_owned _ ▸ ·))⟩

theorem runTimers_kept (s : State) : LawsKept L s s.runTimers := by
  have hlists := ((txq_map_kept (L := L) (s := s) .none (fun _ => rfl) txKept_runMs).trans
    (memTimers_kept _)).trans (listTimers_kept _)
  have hreader := hlists.trans (rd_kept { s.rd with window := runMs s.rd.window } fun _ hr => by
    have hr' : s.rd = Reader.atReset := hr
    rw [hr']
    rfl)
  refine (hreader.trans (workTimers_kept _)).trans (heat_kept _ fun _ hw hj => ?_)
  have hheat : s.heat = HeatShare.atReset := (hw.2 hj).2.1
  show ({ s.heat with
    holdOff := runMs s.heat.holdOff, claimWait := runMs s.heat.claimWait
    warmLeft := runMs s.heat.warmLeft, burst := runMs s.heat.burst } : HeatShare) = _
  rw [hheat]
  rfl

theorem passMs_kept (s : State) : LawsKept L s s.passMs := by
  unfold State.passMs
  dsimp only
  split
  · exact (runTimers_kept s).trans (port_kept _ id)
  · exact port_kept _ id

theorem raise_kept (c : Instr) (s : State) : LawsKept L s (s.raise c) :=
  ⟨rfl, .inl rfl, id, id, id, fun _ => id⟩

theorem idle_kept (s : State) : LawsKept L s s.idle := by
  unfold State.idle
  split
  · split
    · exact endQueuedTimes_kept s
    · exact passMs_kept s
  · exact raise_kept _ s
  · exact raise_kept _ s

end Sys2Proof.Machine

namespace Sys2Proof.Machine

/-! ### The commands

Where a command begins, the laws of book records are known, if they hold there at all: `L` is that they hold. -/

/-- Whatever next state a command answers keeps the laws that hold in `s`. -/
def keepsLaws (s : State) (r : Result) : Prop := ∀ t, r = .next t → LawsKept s.recordsLawful s t

theorem keepsLaws_next (s t : State) : keepsLaws s (.next t) ↔ LawsKept s.recordsLawful s t :=
  ⟨fun h => h t rfl, fun h _ e => Host.Outcome.next.inj e ▸ h⟩

theorem keepsLaws_read (c : PortRead) (n : Nat) (released : Bool) (s : State) :
    keepsLaws s (.next (s.read c n released)) := (keepsLaws_next s _).mpr (read_kept c n released s)

theorem keepsLaws_receive {p : Pos} {k : NoticeKind} {l : List Byte} {f : State → State} (s : State)
    (h : ∀ t : State, t.bus.frame = .none → LawsKept s.recordsLawful t (f t)) :
    keepsLaws s (.next (s.receive p k l f)) := (keepsLaws_next s _).mpr (receive_kept h)

theorem keepsLaws_when {p : Prop} [Decidable p] {f : State → State} {s : State}
    (h : p → LawsKept s.recordsLawful s (f s)) : keepsLaws s (.next (s.when p f)) :=
  (keepsLaws_next s _).mpr (when_kept h)

theorem keepsLaws_if {p : Prop} [Decidable p] {s t : State} (h : p → LawsKept s.recordsLawful s t) :
    keepsLaws s (.next (if p then t else s)) := by
  rw [keepsLaws_next]
  split
  next hp => exact h hp
  · exact .refl s

/-! #### The station port -/

theorem execWatch_kept (b : Byte) (s : State) (released : Bool) : keepsLaws s (execWatch b s released) := by
  have hopen : LawsKept s.recordsLawful s
      (if s.port.watch = some b then s else { s.openPort with port := { s.openPort.port with watch := some b } }) := by
    split
    · exact .refl s
    · exact port_kept _ id
  unfold execWatch
  dsimp only
  rw [keepsLaws_next]
  split
  · exact hopen.trans (releasePort_kept _)
  · exact hopen

theorem execWriteEnables_kept (l : BitVec 24) (g : Byte) (s : State) : keepsLaws s (execWriteEnables l g s) :=
  (keepsLaws_next s _).mpr (port_kept _ id)

theorem execMark_kept (k : Byte) (s : State) : keepsLaws s (execMark k s) := by
  unfold execMark
  dsimp only
  rw [keepsLaws_next]
  split
  · exact openAnswer_kept _ s
  · split
    · exact openAnswer_kept _ s
    · exact (((openAnswer_kept .accepted s).trans (markAtWork_kept .machine _)).trans (log_kept _ _ _ _)).trans
        (afterMark_kept _)

theorem execPurge_kept (tag : W16) (s : State) : keepsLaws s (execPurge tag s) := by
  unfold execPurge
  dsimp only
  rw [keepsLaws_next]
  split
  · exact openAnswer_kept _ s
  · split
    next hz =>
      split
      · exact openAnswer_kept _ s
      · exact (openAnswer_kept .accepted s).trans (purgeZone_kept hz)
    · exact (openAnswer_kept .accepted s).trans (purgeIncoming_kept _ _ _)
    · exact openAnswer_kept _ s

theorem not_config_of_active {s : State} (h : s.isActive) : s.mem.station ≠ .config := by
  intro hc
  simp [State.isActive, hc] at h

theorem execMagazineClear_kept (s : State) : keepsLaws s (execMagazineClear s) := by
  unfold execMagazineClear
  dsimp only
  rw [keepsLaws_next]
  split
  · exact openAnswer_kept _ s
  next hactive =>
    split
    · exact openAnswer_kept _ s
    · exact (openAnswer_kept .accepted s).trans
        (clearMagazine_kept (not_config_of_active (not_not.mp (not_or.mp hactive).2)))

theorem execStop_kept (s : State) : keepsLaws s (execStop s) := by
  unfold execStop
  rw [keepsLaws_next]
  split
  · exact (openAnswer_kept .accepted s).trans (setOwnStop_kept _ _)
  · exact openAnswer_kept _ s

theorem execGo_kept (s : State) : keepsLaws s (execGo s) := by
  unfold execGo
  rw [keepsLaws_next]
  split
  · exact (openAnswer_kept .accepted s).trans (setOwnStop_kept _ _)
  · exact openAnswer_kept _ s

theorem execDrain_kept (s : State) : keepsLaws s (execDrain s) := by
  have hdraining (t : State) : LawsKept s.recordsLawful t { t with zt := { t.zt with draining := true } } :=
    zt_lists_kept _ rfl rfl
  unfold execDrain
  dsimp only
  rw [keepsLaws_next]
  split
  · exact ((openPort_kept s).trans (hdraining _)).trans (answer_kept _ _)
  · exact openAnswer_kept _ s

theorem execTransactionFrame_kept (l : List Byte) (n : Nat) (s : State) :
    keepsLaws s (execTransactionFrame l n s) :=
  (keepsLaws_next s _).mpr (((brokenRead_kept l n s).trans (releasePort_kept _)).trans (answer_kept _ _))

/-! #### The bus -/

theorem execFrameStart_kept (r : Option Rival) (s : State) (n : Nat) : keepsLaws s (execFrameStart r s n) := by
  unfold execFrameStart
  dsimp only
  rw [keepsLaws_next]
  split
  · exact .refl s
  next hon =>
    obtain ⟨hatt, hf⟩ := not_or.mp hon
    have hatt' : s.bus.attached = true := not_not.mp hatt
    have hf' : s.bus.frame = .none := not_not.mp hf
    have hquiet (q : Nat) (hq : q ≤ Config.quietGap) :
        LawsKept s.recordsLawful s { s with bus := { s.bus with quiet := q, drive := .none } } :=
      frame_kept _ rfl rfl hatt' hq (by simp [State.frameQueued, hf'])
    split
    · split
      · exact hquiet 0 (Nat.zero_le _)
      · exact hquiet _ (quietAfter_le n s.bus)
    · exact (hquiet _ (quietAfter_le n s.bus)).trans (startFrame_kept hatt' hf')

theorem frame_ne_none {f : Frame} (h : f.received = true) : f ≠ .none := by
  rintro rfl
  cases h

theorem execReadbackMismatch_kept (s : State) : keepsLaws s (execReadbackMismatch s) := by
  unfold execReadbackMismatch
  rw [keepsLaws_next]
  split
  next hf => exact failFrame_kept (by rw [hf]; exact Frame.noConfusion)
  next hf => exact failFrame_kept (by rw [hf]; exact Frame.noConfusion)
  · exact .refl s
  · exact .refl s

theorem execStructureError_kept (c : BreakCause) (s : State) : keepsLaws s (execStructureError c s) :=
  keepsLaws_if fun ⟨_, hreceived⟩ => by
    have hend : LawsKept s.recordsLawful s (s.endFrame .abortRun) := endFrame_kept _ (frame_ne_none hreceived)
    cases c with
    | insertion => exact hend
    | length p => exact hend.trans (badFrame_kept _ _ _)

/-- A received or lost frame that is bad ends as the cause of the flag says (R23). -/
theorem flagEnds_kept (c : FlagCause) {s : State} (hf : s.bus.frame ≠ .none) : LawsKept s.recordsLawful s
    (match c with
      | .check sender => (s.endFrame .flag).badFrame 1 sender
      | .kind sender => (s.endFrame .flag).badFrame 3 sender
      | .byOther => s.endFrame .none) := by
  cases c with
  | check p => exact (endFrame_kept _ hf).trans (badFrame_kept _ _ _)
  | kind p => exact (endFrame_kept _ hf).trans (badFrame_kept _ _ _)
  | byOther => exact endFrame_kept _ hf

theorem execFlaggedFrame_kept (c : FlagCause) (s : State) : keepsLaws s (execFlaggedFrame c s) := by
  unfold execFlaggedFrame
  rw [keepsLaws_next]
  split
  · exact .refl s
  · split
    · exact .refl s
    next hf => exact failFrame_kept (by rw [hf]; exact Frame.noConfusion)
    next hf => exact flagEnds_kept c (by rw [hf]; exact Frame.noConfusion)
    next hf => exact flagEnds_kept c (by rw [hf]; exact Frame.noConfusion)

theorem execBeacon_kept (p : Pos) (l : List Byte) (s : State) : keepsLaws s (execBeacon p l s) := by
  unfold execBeacon
  split
  · exact keepsLaws_receive s fun _ => beaconEffect_kept p l
  · exact execFlaggedFrame_kept _ s

/-! #### Edges and expiries -/

theorem running_ne_joining {s : State} (h : s.isRunning) : s.mem.station ≠ .joining := by rw [h]; decide

theorem execWorkLeadingEdge_kept (e : InputEdge) (s : State) : keepsLaws s (execWorkLeadingEdge s e) :=
  (keepsLaws_next s _).mpr (onEdge_kept (workLeading_kept id) fun _ => eyes_kept _ s)

theorem execExitTrailingEdge_kept (e : InputEdge) (s : State) : keepsLaws s (execExitTrailingEdge s e) :=
  (keepsLaws_next s _).mpr (onEdge_kept (fun _ => exitTrailing_kept id) fun _ => eyes_kept _ s)

theorem execFeedEyeLeadingEdge_kept (e : InputEdge) (s : State) : keepsLaws s (execFeedEyeLeadingEdge s e) :=
  keepsLaws_if fun _ => onEdge_kept
    (fun hs => (eyes_kept { s.zt.eyes with fourth := true } s).trans (partArrives_kept (running_ne_joining hs)))
    fun _ => fourthClear_kept s

theorem execCycleDone_kept (e : InputEdge) (s : State) : keepsLaws s (execCycleDone s e) :=
  keepsLaws_if fun hm => onEdge_kept (fun hs => doneEdge_kept id hs hm) fun hs =>
    work_kept _ (fun hj => absurd hj (running_ne_joining hs)) fun _ hr => hr.work

theorem execConfirmEyeLeadingEdge_kept (e : InputEdge) (s : State) :
    keepsLaws s (execConfirmEyeLeadingEdge s e) :=
  keepsLaws_if fun _ => onEdge_kept
    (fun _ => by
      have heyes := eyes_kept (L := s.recordsLawful) { s.zt.eyes with fourth := true } s
      exact heyes.trans (confirmEdge_kept fun hl => heyes.records hl hl))
    fun _ => fourthClear_kept s

theorem execOpenTimeExpiry_kept (p : RecordPlace) (s : State) : keepsLaws s (execOpenTimeExpiry p s) := by
  unfold execOpenTimeExpiry
  rw [keepsLaws_next]
  split
  · split
    next hz => exact when_kept fun _ => zoneTimeOut_kept hz
    · exact .refl s
  · split
    next hi => exact when_kept fun _ => incomingTimeOut_kept hi
    · exact .refl s

/-- A running part of the heat block belongs to a station that is not JACKET. -/
theorem role_ne_of_timer {α : Type} {s : State} (f : HeatShare → Option α) (hreset : f HeatShare.atReset = none)
    (h : (f s.heat).isSome) (hl : s.recordsLawful) : s.role ≠ some .jacket :=
  role_ne_of_heat hl fun hh => by
    rw [hh, hreset] at h
    cases h

theorem execKeepwarmDue_kept (s : State) : keepsLaws s (execKeepwarmDue s) := by
  unfold execKeepwarmDue
  rw [keepsLaws_next]
  split
  next h =>
    exact when_kept fun _ => fallDue_kept (role_ne_of_timer HeatShare.warmLeft rfl (by rw [h]; rfl))
  · exact .refl s

theorem execHeatPhaseEnd_kept (s : State) : keepsLaws s (execHeatPhaseEnd s) := by
  unfold execHeatPhaseEnd
  rw [keepsLaws_next]
  split
  · refine when_kept fun ⟨_, hp⟩ => ?_
    have hbusy : s.work.press ≠ .idle := by rw [hp]; decide
    exact finishHeat_kept hbusy fun hl => role_ne_of_press hl hbusy
  · exact .refl s

/-- The commands that neither reset nor configure the station, nor begin its joining or its run. -/
def isOrdinary : Instr → Bool
  | .powerOn _ | .resetPin _ | .reset _ | .writeParameter _ _ | .writeFormat _ _ | .join | .joinWindowEnd _ => false
  | _ => true

/-- Every ordinary command keeps the laws: a reading of the dispatch, arm by arm. -/
theorem exec_kept (c : Instr) (s : State) (hc : isOrdinary c = true) : keepsLaws s (exec c s) := by
  cases c with
  | powerOn | resetPin | reset | writeParameter | writeFormat | join | joinWindowEnd => cases hc
  | status | readLatches | readJournal | readRecord | readMagazine => exact keepsLaws_read _ _ _ s
  | watch b released => exact execWatch_kept b s released
  | writeEnables l g => exact execWriteEnables_kept l g s
  | mark k => exact execMark_kept k s
  | purge tag => exact execPurge_kept tag s
  | magazineClear => exact execMagazineClear_kept s
  | stop => exact execStop_kept s
  | go => exact execGo_kept s
  | drain => exact execDrain_kept s
  | transactionFrame l n => exact execTransactionFrame_kept l n s
  | frameStart r n => exact execFrameStart_kept r s n
  | readbackMismatch => exact execReadbackMismatch_kept s
  | structureError cause => exact execStructureError_kept cause s
  | flaggedFrame cause => exact execFlaggedFrame_kept cause s
  | stopNotice p r => exact keepsLaws_receive s fun _ => stopEffect_kept p r
  | goNotice p => exact keepsLaws_receive s fun _ => goEffect_kept p
  | absent p q => exact keepsLaws_receive s fun _ => absentEffect_kept p q
  | claim p k => exact keepsLaws_receive s fun _ hf => classOne_kept hf fun _ => applyClaim_kept
  | release p => exact keepsLaws_receive s fun _ hf => classOne_kept hf fun _ => applyRelease_kept
  | withdraw p => exact keepsLaws_receive s fun _ hf => classOne_kept hf fun _ => applyWithdraw_kept
  | handover p q image => exact keepsLaws_receive s fun _ => handoverEffect_kept p q image
  | room p r => exact keepsLaws_receive s fun _ => roomEffect_kept p r
  | void p k f l => exact keepsLaws_receive s fun _ => voidEffect_kept p k f l
  | joinNotice p r d => exact keepsLaws_receive s fun _ => joinEffect_kept p r d
  | beacon p l => exact execBeacon_kept p l s
  | silenceTimerExpiry p => exact keepsLaws_when fun _ => silenceExpires_kept p s
  | beaconTimerExpiry => exact keepsLaws_when fun ⟨hs, _⟩ => beaconExpires_kept hs
  | idFrame l => exact (keepsLaws_next s _).mpr (readBytes_kept l s)
  | readerGapTimeout =>
    exact keepsLaws_when fun ⟨hon, _⟩ => readError_kept (running_ne_joining ((readerOn_iff s).mp hon).1)
  | readWindowExpiry => exact keepsLaws_when fun ⟨hs, _⟩ => windowExpires_kept hs
  | encoderCount => exact keepsLaws_if fun _ => count_kept
  | entryLeadingEdge => exact keepsLaws_if fun hs => entryLeading_kept id (running_ne_joining hs)
  | entryTrailingEdge => exact keepsLaws_if fun _ => entryTrailing_kept s
  | adoptionDistanceExpiry => exact keepsLaws_if fun _ => oldestUnknown_kept s
  | transitDistanceExpiry => exact keepsLaws_if fun _ => goMissing_kept s
  | workLeadingEdge e => exact execWorkLeadingEdge_kept e s
  | exitTrailingEdge e => exact execExitTrailingEdge_kept e s
  | feedEyeLeadingEdge e => exact execFeedEyeLeadingEdge_kept e s
  | cycleDone e => exact execCycleDone_kept e s
  | cycleTimeout => exact (keepsLaws_next s _).mpr (cycleLimit_kept fun _ => marryTimesOut_kept)
  | skipTimeout => exact (keepsLaws_next s _).mpr (cycleLimit_kept fun _ => skipTimesOut_kept)
  | openTimeExpiry place => exact execOpenTimeExpiry_kept place s
  | holdOffExpiry =>
    exact keepsLaws_when fun ⟨_, h⟩ => endHoldOff_kept (role_ne_of_timer HeatShare.holdOff rfl h)
  | claimWaitLimit =>
    exact keepsLaws_when fun ⟨_, _, h⟩ => starve_kept (role_ne_of_timer HeatShare.claimWait rfl h)
  | keepwarmDue => exact execKeepwarmDue_kept s
  | warmTimerExpiry => exact keepsLaws_when fun ⟨_, h⟩ => goCold_kept (role_ne_of_timer HeatShare.warmLeft rfl h)
  | burstEnd => exact keepsLaws_when fun ⟨_, h⟩ => endBurst_kept (role_ne_of_timer HeatShare.burst rfl h)
  | heatPhaseEnd => exact execHeatPhaseEnd_kept s
  | setEnd =>
    exact keepsLaws_when fun ⟨_, hp⟩ => finishPress_kept fun hl => role_ne_of_press hl (by rw [hp]; decide)
  | maxSuspendExpiry =>
    exact keepsLaws_when fun ⟨_, hp, _⟩ => suspendExpired_kept (work_ne_atReset (by rw [hp]; decide))
  | guardOpens => exact keepsLaws_when fun _ => guardOpened_kept fun hl => noPress_of_workLawful hl.work
  | guardCloses => exact keepsLaws_when fun _ => guardClosed_kept fun hl => noPress_of_workLawful hl.work
  | confirmEyeLeadingEdge e => exact execConfirmEyeLeadingEdge_kept e s
  | confirmDistanceExpiry =>
    exact keepsLaws_if fun ⟨_, hd⟩ => failDivert_kept fun hl =>
      role_ne_of_divert hl.work (Option.isSome_iff_ne_none.mp hd)

end Sys2Proof.Machine

namespace Sys2Proof.Machine

/-! ### A station that stands still

In CONFIG and in HALTED the controller is detached, so that no event has an effect and a transaction of the station
port changes the port alone (R41, R46). -/

/-- Neither JOINING nor RUNNING, detached, and with no frame in progress. -/
def State.standsStill (s : State) : Prop :=
  ¬ s.isActive ∧ s.bus.attached = false ∧ s.bus.frame = .none

theorem not_running_of_not_active {s : State} (h : ¬ s.isActive) : ¬ s.isRunning := fun hr => h (.inr hr)

theorem when_of_not {p : Prop} [Decidable p] (f : State → State) {s : State} (h : ¬ p) : s.when p f = s := if_neg h

theorem readBytes_of_not_active {s : State} (l : List ReaderByte) (h : ¬ s.isActive) :
    l.foldl State.readByte s = s := by
  have hoff : s.readerOn ≠ true := fun hon => not_running_of_not_active h ((readerOn_iff s).mp hon).1
  induction l with
  | nil => rfl
  | cons r rest ih =>
    rw [List.foldl_cons, show s.readByte r = s from if_neg hoff]
    exact ih

theorem onEdge_of_not_active (e : InputEdge) (f g : State → State) {s : State} (h : ¬ s.isActive) :
    s.onEdge e f g = s := if_neg (not_running_of_not_active h)

theorem flagged_of_standsStill {s : State} (c : FlagCause) (h : s.standsStill) : execFlaggedFrame c s = .next s := by
  unfold execFlaggedFrame
  rw [if_pos (by rw [h.2.1]; decide)]

theorem cycleLimit_of_not_active (k : CycleKind) (f : Cycle → State → State) {s : State} (h : ¬ s.isActive) :
    s.cycleLimit k f = s := by
  unfold State.cycleLimit
  split
  · exact if_neg fun hr => not_running_of_not_active h hr.1
  · rfl

/-- No event of the bus, the reader, the eyes, the encoder, the guard or a timer has an effect on a station that
stands still. -/
theorem exec_of_standsStill {c : Instr} {s : State} (hc : takenHalted c = false) (h : s.standsStill) :
    exec c s = .next s := by
  obtain ⟨hactive, hatt, hf⟩ := h
  have hoff : ¬ s.isRunning := not_running_of_not_active hactive
  have hreceive (p : Pos) (k : NoticeKind) (l : List Byte) (f : State → State) :
      Host.Outcome.next (s.receive p k l f) = (.next s : Result) := by
    rw [receive_of_no_frame p k l f s (.inr hf)]
  have hwhen {p : Prop} [Decidable p] (f : State → State) (hp : ¬ p) :
      Host.Outcome.next (s.when p f) = (.next s : Result) := by rw [when_of_not f hp]
  have hactiveAnd (p : Prop) : ¬ (s.isActive ∧ p) := fun hp => hactive hp.1
  have hrunningAnd (p : Prop) : ¬ (s.isRunning ∧ p) := fun hp => hoff hp.1
  cases c with
  | powerOn | resetPin | status | watch | readLatches | writeEnables | readJournal | readRecord | readMagazine
  | writeParameter | writeFormat | join | mark | purge | magazineClear | stop | go | drain | reset
  | transactionFrame => cases hc
  | frameStart r n => exact congrArg _ (if_pos (.inl (by rw [hatt]; decide)))
  | readbackMismatch =>
    show execReadbackMismatch s = _
    unfold execReadbackMismatch
    rw [hf]
  | structureError cause => exact congrArg _ (if_neg fun hon => by rw [hatt] at hon; cases hon.1)
  | flaggedFrame cause => exact flagged_of_standsStill cause ⟨hactive, hatt, hf⟩
  | stopNotice | goNotice | absent | claim | release | withdraw | handover | room | void | joinNotice =>
    exact hreceive _ _ _ _
  | beacon p l =>
    show execBeacon p l s = _
    unfold execBeacon
    split
    · exact hreceive _ _ _ _
    · exact flagged_of_standsStill _ ⟨hactive, hatt, hf⟩
  | silenceTimerExpiry | holdOffExpiry => exact hwhen _ (hactiveAnd _)
  | joinWindowEnd => exact hwhen _ fun hj => hactive (.inl hj.1)
  | beaconTimerExpiry | readWindowExpiry | claimWaitLimit | warmTimerExpiry | burstEnd | setEnd
  | maxSuspendExpiry => exact hwhen _ (hrunningAnd _)
  | guardOpens | guardCloses => exact hwhen _ hoff
  | readerGapTimeout => exact hwhen _ fun hon => hoff ((readerOn_iff s).mp hon.1).1
  | idFrame l => exact congrArg _ (readBytes_of_not_active l hactive)
  | encoderCount | entryLeadingEdge | entryTrailingEdge | transitDistanceExpiry => exact congrArg _ (if_neg hoff)
  | adoptionDistanceExpiry | confirmDistanceExpiry => exact congrArg _ (if_neg (hrunningAnd _))
  | workLeadingEdge e | exitTrailingEdge e => exact congrArg _ (onEdge_of_not_active e _ _ hactive)
  | feedEyeLeadingEdge e | cycleDone e | confirmEyeLeadingEdge e =>
    exact congrArg _ ((congrArg (ite _ · s) (onEdge_of_not_active e _ _ hactive)).trans (ite_self s))
  | cycleTimeout | skipTimeout => exact congrArg _ (cycleLimit_of_not_active _ _ hactive)
  | openTimeExpiry place =>
    show execOpenTimeExpiry place s = _
    unfold execOpenTimeExpiry
    split
    · split
      · exact hwhen _ (hactiveAnd _)
      · rfl
    · split
      · exact hwhen _ (hactiveAnd _)
      · rfl
  | keepwarmDue =>
    show execKeepwarmDue s = _
    unfold execKeepwarmDue
    split
    · exact hwhen _ (hrunningAnd _)
    · rfl
  | heatPhaseEnd =>
    show execHeatPhaseEnd s = _
    unfold execHeatPhaseEnd
    split
    · exact hwhen _ (hrunningAnd _)
    · rfl

/-- The transactions that may write more than the port to a station that does not work: those of configuration,
and DRAIN. -/
def isConfiguring : Instr → Bool
  | .writeParameter _ _ | .writeFormat _ _ | .join | .drain => true
  | _ => false

theorem brokenRead_spec (bytes : List Byte) (n : Nat) (s : State) :
    s.brokenRead bytes n = { s with port := (s.brokenRead bytes n).port } := by
  unfold State.brokenRead
  split <;> rfl

/-- Any other transaction of a station that does not work changes the port alone. -/
theorem exec_transaction_of_not_active {c : Instr} {s : State} (hc : takenHalted c = true) (hr : ¬ isReset c)
    (hno : isConfiguring c = false) (h : ¬ s.isActive) : ∃ p, exec c s = .next { s with port := p } := by
  cases c with
  | powerOn straps => exact absurd ⟨straps, .inl rfl⟩ hr
  | resetPin straps => exact absurd ⟨straps, .inr (.inl rfl)⟩ hr
  | reset straps => exact absurd ⟨straps, .inr (.inr rfl)⟩ hr
  | writeParameter | writeFormat | join | drain => cases hno
  | status | readLatches | readJournal | readRecord | readMagazine =>
    exact ⟨_, congrArg _ (read_spec _ _ _ s)⟩
  | watch b released =>
    show ∃ p, execWatch b s released = _
    unfold execWatch
    dsimp only
    split <;> split <;> exact ⟨_, rfl⟩
  | writeEnables l g => exact ⟨_, rfl⟩
  | mark k => exact ⟨_, congrArg _ (if_pos (.inl (not_running_of_not_active h)))⟩
  | purge tag => exact ⟨_, congrArg _ (if_pos h)⟩
  | magazineClear => exact ⟨_, congrArg _ (if_pos (.inr h))⟩
  | stop => exact ⟨_, exec_stop_of_not_active h⟩
  | go => exact ⟨_, exec_go_of_not_active h⟩
  | transactionFrame l n =>
    refine ⟨((s.brokenRead l n).releasePort.answer .frame).port, congrArg Host.Outcome.next ?_⟩
    rw [brokenRead_spec]
    rfl
  | _ => cases hc

/-- A locked station refuses its configuration, and a HALTED one DRAIN too: the port alone changes (R16, R37). -/
theorem exec_configuring_of_halted {c : Instr} {s : State} (hc : isConfiguring c = true)
    (h : s.mem.station = .halted) : ∃ p, exec c s = .next { s with port := p } := by
  have hlocked : s.locked = true := (locked_eq_true_iff s).mpr (by rw [h]; decide)
  cases c with
  | writeParameter id v => exact ⟨_, congrArg _ (if_pos hlocked)⟩
  | writeFormat i e => exact ⟨_, congrArg _ (if_pos hlocked)⟩
  | join => exact ⟨_, congrArg _ (if_pos hlocked)⟩
  | drain => exact ⟨_, congrArg _ (if_neg fun hd => hd.2 h)⟩
  | _ => cases hc

end Sys2Proof.Machine

namespace Sys2Proof.Machine

/-! ### One step -/

/-- What a whole step keeps: the four groups of laws. -/
structure StepKept (s t : State) : Prop where
  capacity : s.withinCapacity → t.withinCapacity
  bus : s.busLawful → t.busLawful
  quiet : s.quietLawful → t.quietLawful
  records : s.recordsLawful → t.recordsLawful

theorem LawsKept.not_config {L : Prop} {s t : State} (h : LawsKept L s t) (ht : t.mem.station ≠ .config) :
    s.mem.station ≠ .config := by
  rcases h.station with hst | ⟨ha, -⟩
  · rwa [← hst]
  · exact not_config_of_active ha

theorem LawsKept.paramsLawful {L : Prop} {s t : State} (h : LawsKept L s t) (hs : s.paramsLawful) :
    t.paramsLawful := fun ht => by
  rw [h.params]
  exact hs (h.not_config ht)

/-- What keeps the laws and, in CONFIG, what stands there as reset left it is kept by the step. -/
theorem StepKept.of_laws {s t : State} (h : LawsKept s.recordsLawful s t)
    (hc : s.configLawful → t.configLawful) : StepKept s t where
  capacity := h.capacity
  bus := h.bus
  quiet := fun ⟨hconfig, hjoining, hparams⟩ => ⟨hc hconfig, h.joining hjoining, h.paramsLawful hparams⟩
  records := fun hr => h.records hr hr

theorem StepKept.trans {s t u : State} (h : StepKept s t) (h' : StepKept t u) : StepKept s u :=
  ⟨h'.capacity ∘ h.capacity, h'.bus ∘ h.bus, h'.quiet ∘ h.quiet, h'.records ∘ h.records⟩

/-- Outside CONFIG nothing is asked of what stands there. -/
theorem configLawful_of_ne {s : State} (h : s.mem.station ≠ .config) : s.configLawful := fun hc => absurd hc h

theorem LawsKept.ne_config {L : Prop} {s t : State} (h : LawsKept L s t) (hs : s.mem.station ≠ .config) :
    t.mem.station ≠ .config := by
  rcases h.station with ht | ⟨-, ht⟩
  · rwa [ht]
  · rw [ht]
    decide

/-- A step that goes on outside CONFIG keeps what the operations after it keep. -/
theorem StepKept.andLaws {s t u : State} (h : StepKept s t) (ht : t.mem.station ≠ .config)
    (h' : LawsKept s.recordsLawful t u) : StepKept s u where
  capacity := h'.capacity ∘ h.capacity
  bus := h'.bus ∘ h.bus
  quiet := fun hs => by
    obtain ⟨-, hjoining, hparams⟩ := h.quiet hs
    exact ⟨configLawful_of_ne (h'.ne_config ht), h'.joining hjoining, h'.paramsLawful hparams⟩
  records := fun hs => h'.records hs (h.records hs)

/-! #### Entering RUNNING -/

/-- The state in which a station has just entered RUNNING (R43). -/
def State.begunRunning (pins : InputPins) (s : State) : State :=
  { s with
    mem := { s.mem with
      station := .running, joinWindow := none, beaconTimer := some s.beaconPeriod, guardOpen := !pins.guard }
    zt := { s.zt with eyes := s.eyesFound pins }
    work := { s.work with doneOn := s.hasMagazine && pins.done } }

theorem begunRunning_kept {pins : InputPins} {s : State} (hs : s.mem.station = .joining) :
    StepKept s (s.begunRunning pins) where
  capacity := id
  bus := by
    rintro ⟨hatt, -, hquiet, hframe, hfail⟩
    have hactive : (s.begunRunning pins).isActive := .inr rfl
    exact ⟨⟨fun _ => hactive, fun _ => hatt.mpr (.inl hs)⟩, fun hn => absurd hactive hn, hquiet, hframe, hfail⟩
  quiet := by
    rintro ⟨-, -, hparams⟩
    exact ⟨nofun, nofun, fun _ => hparams (by rw [hs]; decide)⟩
  records := by
    rintro ⟨hz, hi, hq, hw, hparams, hord⟩
    exact ⟨hz, hi, hq, hw, fun _ => hparams (by rw [hs]; decide), hord⟩

theorem enterRunning_kept {pins : InputPins} {s : State} (hs : s.mem.station = .joining) :
    StepKept s (s.enterRunning pins) := by
  have hbegun := begunRunning_kept (pins := pins) hs
  have hbeacon : LawsKept s.recordsLawful (s.begunRunning pins)
      (((s.begunRunning pins).log .running 0 .none).queue .beacon) := (log_kept _ _ _ _).trans (queue_kept _ _)
  have hguard := hbeacon.andThen (f := fun t => if t.mem.guardOpen then t.addGuard else t) fun _ => by
    split
    · exact setOwnStop_kept _ _
    · exact .refl _
  have hhouse := hguard.andThen (f := State.judgeHousekeeping) fun _ => judgeHousekeeping_kept _
  refine hbegun.andLaws (by show StationState.running ≠ _; decide) (hhouse.andThen fun _ => claimsOpen_kept fun hl hj => ?_)
  rw [((hhouse.records hl (hbegun.records hl)).work.2 hj).2.1]
  rfl

/-! #### JOIN taken -/

/-- The state in which a station has just begun to join (R39). -/
def State.begunJoining (s : State) : State :=
  { s with
    params := { s.params with digest := lineDigest s.params.line s.params.formats, offending := 255 }
    bus := { s.bus with attached := true, quiet := 0, frame := .none, drive := .none }
    mem := { s.mem with station := .joining } }

theorem begunJoining_kept {s : State} (hs : s.mem.station = .config) (hok : s.params.offendingItem = none) :
    StepKept s s.begunJoining where
  capacity := id
  bus := by
    rintro ⟨-, -, -, -, hfail⟩
    have hactive : s.begunJoining.isActive := .inl rfl
    exact ⟨⟨fun _ => hactive, fun _ => rfl⟩, fun hn => absurd hactive hn, Nat.zero_le _, trivial, hfail⟩
  quiet := by
    rintro ⟨hconfig, -, -⟩
    obtain ⟨hmem, -, hzt, hrd, hparts, hwork, -, -⟩ := hconfig hs
    refine ⟨nofun, fun _ => ⟨?_, ?_, hwork, hrd, ?_⟩, fun _ => hok⟩
    · show s.zt.zone = []
      rw [hzt]
      rfl
    · show s.parts.magazine = []
      rw [hparts]
      rfl
    · show s.mem.beaconTimer = none
      rw [hmem]
      rfl
  records := fun ⟨hz, hi, hq, hw, _, hord⟩ => ⟨hz, hi, hq, hw, fun _ => hok, hord⟩

theorem acceptJoin_kept {s : State} (hs : s.mem.station = .config) (hok : s.params.offendingItem = none) :
    StepKept s s.acceptJoin :=
  (begunJoining_kept hs hok).andLaws (by show StationState.joining ≠ _; decide)
    ((queue_kept _ _).trans (log_kept _ _ _ _))

/-! #### The configuration written, and the resets -/

/-- In CONFIG the parameters but the straps and the digest may change, and the port. -/
theorem params_kept {s : State} (p : ParamStore) (q : PortUnit) (hs : s.mem.station = .config)
    (hstraps : p.straps = s.params.straps) (hdigest : p.digest = s.params.digest)
    (hq : q.journal = s.port.journal) : StepKept s { s with params := p, port := q } where
  capacity := fun ⟨cq, cz, ci, cm, cv, cj⟩ => ⟨cq, cz, ci, cm, cv, by rwa [hq]⟩
  bus := id
  quiet := by
    rintro ⟨hconfig, hjoining, -⟩
    refine ⟨fun hc => ?_, hjoining, fun hn => absurd hs hn⟩
    obtain ⟨hmem, hbus, hzt, hrd, hparts, hwork, hheat, hzero⟩ := hconfig hc
    exact ⟨hmem, hbus, hzt, hrd, hparts, hwork, hheat, hdigest.trans hzero⟩
  records := by
    rintro ⟨hz, hi, hn, hw, -, hord⟩
    have hrole : State.role { s with params := p, port := q } = s.role := by
      unfold State.role
      rw [hstraps]
    refine ⟨hz, hi, hn, ⟨?_, ?_⟩, fun hne => absurd hs hne, hord⟩
    · unfold State.hasMagazine
      rw [hrole]
      exact hw.1
    · rw [hrole]
      exact hw.2

/-- What a write stores leaves the straps and the digest (R37). -/
theorem write_straps {id : Byte} {v : W16} {p q : ParamStore} (h : p.write id v = some q) :
    q.straps = p.straps ∧ q.digest = p.digest := by
  unfold ParamStore.write at h
  split at h
  · cases h
    exact ⟨rfl, rfl⟩
  · split at h
    · cases h
      exact ⟨rfl, rfl⟩
    · cases h

/-- Whatever next state a command answers keeps what a step keeps. -/
def stepKeeps (s : State) (r : Result) : Prop := ∀ t, r = .next t → StepKept s t

theorem stepKeeps_next (s t : State) : stepKeeps s (.next t) ↔ StepKept s t :=
  ⟨fun h => h t rfl, fun h _ e => Host.Outcome.next.inj e ▸ h⟩

/-- A change of the port alone, but for its journal. -/
theorem portOnly_kept {s : State} (p : PortUnit) (h : p.journal = s.port.journal) :
    StepKept s { s with port := p } :=
  .of_laws (port_kept p fun hj => by rwa [h]) id

theorem execWriteParameter_kept (id : Byte) (v : W16) (s : State) : stepKeeps s (execWriteParameter id v s) := by
  unfold execWriteParameter
  dsimp only
  rw [stepKeeps_next]
  split
  · exact portOnly_kept _ rfl
  next hlocked =>
    have hs := (locked_eq_false_iff s).mp (by simpa using hlocked)
    split
    · exact portOnly_kept _ rfl
    next hw => exact params_kept _ _ hs (write_straps hw).1 (write_straps hw).2 rfl

theorem execWriteFormat_kept (i : Byte) (e : FormatEntry) (s : State) : stepKeeps s (execWriteFormat i e s) := by
  unfold execWriteFormat
  dsimp only
  rw [stepKeeps_next]
  split
  · exact portOnly_kept _ rfl
  next hlocked =>
    have hs := (locked_eq_false_iff s).mp (by simpa using hlocked)
    split
    · exact params_kept _ _ hs rfl rfl rfl
    · exact portOnly_kept _ rfl

theorem execJoin_kept (s : State) : stepKeeps s (execJoin s) := by
  unfold execJoin
  dsimp only
  rw [stepKeeps_next]
  split
  · exact portOnly_kept _ rfl
  next hlocked =>
    have hs := (locked_eq_false_iff s).mp (by simpa using hlocked)
    split
    · exact params_kept _ _ hs rfl rfl rfl
    next hok =>
      have hopened : StepKept s s.openPort := portOnly_kept _ rfl
      exact (hopened.trans (acceptJoin_kept (s := s.openPort) hs hok)).trans (portOnly_kept _ rfl)

section
variable (cause : ResetCause) (tag : W16) (straps : Straps) (s : State)

/-- After a reset the station is neither JOINING nor RUNNING (R53). -/
theorem afterReset_not_active : ¬ (s.afterReset cause tag straps).isActive :=
  not_isActive_of_config_or_halted (.inl rfl)

theorem afterReset_withinCapacity : (s.afterReset cause tag straps).withinCapacity :=
  ⟨Nat.zero_le _, Nat.zero_le _, Nat.zero_le _, Nat.zero_le _, Nat.zero_le _, Nat.zero_le _⟩

theorem afterReset_busLawful : (s.afterReset cause tag straps).busLawful :=
  ⟨⟨fun h => Bool.noConfusion h, fun ha => absurd ha (afterReset_not_active cause tag straps s)⟩,
    fun _ => ⟨rfl, rfl, rfl⟩, Nat.zero_le _, trivial, List.forall_mem_nil _⟩

theorem afterReset_paramsLawful : (s.afterReset cause tag straps).paramsLawful := fun hn => absurd rfl hn

theorem afterReset_quietLawful : (s.afterReset cause tag straps).quietLawful :=
  ⟨fun _ => ⟨rfl, rfl, rfl, rfl, rfl, rfl, rfl, rfl⟩, fun hj => StationState.noConfusion hj,
    afterReset_paramsLawful cause tag straps s⟩

theorem afterReset_workLawful : (s.afterReset cause tag straps).workLawful :=
  ⟨fun _ => rfl, fun _ => ⟨rfl, rfl, rfl, fun h => h.elim (absurd rfl) fun ho => Bool.noConfusion ho⟩⟩

theorem afterReset_recordsLawful : (s.afterReset cause tag straps).recordsLawful :=
  ⟨List.forall_mem_nil _, List.forall_mem_nil _, List.forall_mem_nil _, afterReset_workLawful cause tag straps s,
    afterReset_paramsLawful cause tag straps s, List.Pairwise.nil, Nat.zero_le _, List.forall_mem_nil _⟩

end

/-- After a reset every law holds, whatever the state was. -/
theorem StepKept.of_reset {s t : State} {cause : ResetCause} {tag : W16} {straps : Straps}
    (h : t = s.afterReset cause tag straps) : StepKept s t := by
  rw [h]
  exact ⟨fun _ => afterReset_withinCapacity _ _ _ _, fun _ => afterReset_busLawful _ _ _ _,
    fun _ => afterReset_quietLawful _ _ _ _, fun _ => afterReset_recordsLawful _ _ _ _⟩

/-! #### The laws of CONFIG -/

theorem eq_drain_of_ordinary {c : Instr} (hc : isOrdinary c = true) (hconf : isConfiguring c = true) :
    c = .drain := by
  cases c with
  | drain => rfl
  | writeParameter | writeFormat | join => cases hc
  | _ => cases hconf

theorem not_isReset_of_ordinary {c : Instr} (hc : isOrdinary c = true) : ¬ isReset c := by
  rintro ⟨straps, rfl | rfl | rfl⟩ <;> cases hc

/-- DRAIN in CONFIG writes draining and the port (R16). -/
theorem execDrain_configLawful {s t : State} (h : execDrain s = .next t) (hs : s.configLawful) : t.configLawful := by
  have hdraining (p : PortUnit) (d : Bool) :
      { s with port := p, zt := { s.zt with draining := d } }.configLawful := fun hc => by
    obtain ⟨hmem, hbus, hzt, hrest⟩ := hs hc
    exact ⟨hmem, hbus, congrArg (fun z : ZoneTracker => { z with draining := d }) hzt, hrest⟩
  by_cases hd : s.role = some .infeed ∧ s.mem.station ≠ .halted
  · obtain ⟨hrole, hstation⟩ := hd
    rw [execDrain_of_infeed hrole hstation] at h
    cases h
    exact hdraining _ true
  · rw [execDrain_of_not_infeed hd] at h
    cases h
    exact hdraining _ s.zt.draining

/-- An ordinary command leaves a station in CONFIG as reset left it, but for draining and the port (R41, R53). -/
theorem exec_configLawful {c : Instr} {s t : State} (hc : isOrdinary c = true) (h : exec c s = .next t)
    (hs : s.configLawful) (hconfig : s.mem.station = .config) : t.configLawful := by
  have hidle : ¬ s.isActive := not_isActive_of_config_or_halted (.inl hconfig)
  cases htaken : takenHalted c with
  | false =>
    have hbus := (hs hconfig).2.1
    rw [exec_of_standsStill htaken ⟨hidle, by rw [hbus]; rfl, by rw [hbus]; rfl⟩] at h
    cases h
    exact hs
  | true =>
    cases hconf : isConfiguring c with
    | true =>
      obtain rfl := eq_drain_of_ordinary hc hconf
      exact execDrain_configLawful h hs
    | false =>
      obtain ⟨p, hp⟩ := exec_transaction_of_not_active htaken (not_isReset_of_ordinary hc) hconf hidle
      obtain rfl := Host.Outcome.next.inj (hp.symm.trans h)
      exact hs

/-! #### The step -/

/-- Every command keeps what a step keeps. -/
theorem exec_stepKeeps (c : Instr) (s : State) : stepKeeps s (exec c s) := by
  by_cases hc : isOrdinary c = true
  · intro t h
    have hlaws := exec_kept c s hc t h
    by_cases hconfig : s.mem.station = .config
    · exact .of_laws hlaws fun hs => exec_configLawful hc h hs hconfig
    · exact .of_laws hlaws fun _ => configLawful_of_ne (hlaws.ne_config hconfig)
  · cases c with
    | powerOn | resetPin | reset => exact fun t h => .of_reset (Host.Outcome.next.inj h).symm
    | writeParameter id v => exact execWriteParameter_kept id v s
    | writeFormat i e => exact execWriteFormat_kept i e s
    | join => exact execJoin_kept s
    | joinWindowEnd pins =>
      refine (stepKeeps_next s _).mpr ?_
      unfold State.when
      split
      next hj => exact enterRunning_kept hj.1
      · exact .of_laws (.refl s) id
    | _ => exact absurd rfl hc

/-- In CONFIG the part's own clock moves the stamp counter, or ends the time of a notice that waits. -/
theorem idle_configLawful {s : State} (hs : s.configLawful) (hconfig : s.mem.station = .config) :
    s.idle.configLawful := by
  have hidle : ¬ s.isActive := not_isActive_of_config_or_halted (.inl hconfig)
  have hdue : s.dueNow = [] := by
    unfold State.dueNow
    rw [hconfig]
  have hover : s.queuedTimeOver = false := by
    unfold State.queuedTimeOver
    rw [decide_eq_false hidle, Bool.false_and]
  unfold State.idle
  rw [hdue]
  dsimp only
  rw [hover]
  unfold State.passMs
  dsimp only
  rw [if_neg hidle]
  exact hs

theorem idle_stepKept (s : State) : StepKept s s.idle := by
  have hlaws := idle_kept (L := s.recordsLawful) s
  by_cases hconfig : s.mem.station = .config
  · exact .of_laws hlaws fun hs => idle_configLawful hs hconfig
  · exact .of_laws hlaws fun _ => configLawful_of_ne (hlaws.ne_config hconfig)

/-- The queue of commands does not bear on the laws. -/
theorem pending_stepKept (s : State) (l : List Instr) : StepKept s { s with pending := l } := ⟨id, id, id, id⟩

theorem step_kept {s t : State} (h : step s = .next t) : StepKept s t := by
  unfold step at h
  split at h
  next rest _ => exact (pending_stepKept s rest).trans (exec_stepKeeps _ _ t h)
  · exact Host.Outcome.next.inj h ▸ idle_stepKept s

/-- Settles O56: each operation keeps every list within its capacity. -/
theorem stepsKeepCapacities : Obligations.StepsKeepCapacities := fun _ _ hs h => (step_kept h).capacity hs

/-- Settles O57: each operation keeps the laws of the bus. -/
theorem stepsKeepBusLaws : Obligations.StepsKeepBusLaws := fun _ _ hs h => (step_kept h).bus hs

/-- Settles O58: in CONFIG and JOINING the commands that could work are refused or have no effect. -/
theorem stepsKeepQuietStates : Obligations.StepsKeepQuietStates := fun _ _ hs h => (step_kept h).quiet hs

/-- Settles O59: each operation keeps the laws of the records it holds, with those of the lists and of the role's
work on which they rest. -/
theorem stepsKeepRecordLaws : Obligations.StepsKeepRecordLaws := fun _ _ hs h => (step_kept h).records hs

/-! ### The machine after reset (O60) -/

/-- Settles O60: the machine after reset is a station after power on. -/
theorem resetObeysTheLaws : Obligations.ResetObeysTheLaws := by
  have hreset : State.reset = State.reset.afterReset .powerOn 1 Straps.atReset := rfl
  unfold Obligations.ResetObeysTheLaws
  rw [hreset]
  exact ⟨afterReset_withinCapacity _ _ _ _, afterReset_busLawful _ _ _ _, afterReset_quietLawful _ _ _ _,
    afterReset_recordsLawful _ _ _ _, Nat.zero_le _, List.nodup_nil, List.Pairwise.nil, absurd rfl⟩

end Sys2Proof.Machine

/-! ## The step, the part's own clock and the resets (O1, O2, O3) -/

namespace Sys2Proof.Machine

/-- Every command answers a next state. -/
theorem exec_next (c : Instr) (s : State) : ∃ t, exec c s = .next t := by
  cases c with
  | beacon p l =>
    show ∃ t, execBeacon p l s = .next t
    unfold execBeacon
    split <;> exact ⟨_, rfl⟩
  | _ => exact ⟨_, rfl⟩

/-- Settles O1: the step is the dispatch on the front command, and each arm answers a next state. -/
theorem stepRunsTheFrontCommand : Obligations.StepRunsTheFrontCommand := fun c _ _ => ⟨rfl, exec_next c _⟩

/-- Settles O3: each reset leaves the reset tables, where the station is in CONFIG with every output off. -/
theorem resetsLeaveTheResetTables : Obligations.ResetsLeaveTheResetTables := fun _ _ =>
  ⟨rfl, rfl, rfl, fun _ _ => ⟨⟨rfl, rfl, rfl, rfl, rfl, rfl, rfl, rfl, rfl, rfl⟩, attention_of_master_off rfl⟩⟩

/-! ### The expiries that are due -/

theorem mem_dueIf {p : Bool} {c d : Instr} : c ∈ dueIf p d ↔ p = true ∧ c = d := by
  unfold dueIf
  cases p <;> simp

theorem runOut_iff (t : Option Nat) : runOut t = true ↔ t = some 0 := beq_iff_eq

theorem zoneOut_iff (s : State) (i : Nat) :
    s.zoneOut i = true ↔ ∃ z ∈ s.zt.zone[i]?, z.book.openTime = some 0 := by
  unfold State.zoneOut
  simp [Option.any_eq_true, runOut_iff]

theorem incomingOut_iff (s : State) (i : Nat) :
    s.incomingOut i = true ↔ ∃ r ∈ s.zt.incoming[i]?, r.book.openTime = some 0 := by
  unfold State.incomingOut
  simp [Option.any_eq_true, runOut_iff]

theorem cycleOut_iff (s : State) (k : CycleKind) :
    s.cycleOut k = true ↔ ∃ c ∈ s.work.cycle, c.kind = k ∧ c.left = 0 := by
  unfold State.cycleOut
  simp [Option.any_eq_true]

/-- The expiries due in JOINING and in RUNNING (R50, R89, R136). -/
theorem mem_dueActive (s : State) (c : Instr) : c ∈ s.dueActive ↔
    (∃ p : Pos, s.mem.silence[p] = some 0 ∧ c = .silenceTimerExpiry p) ∨
    (∃ i, (∃ z ∈ s.zt.zone[i]?, z.book.openTime = some 0) ∧ c = .openTimeExpiry (.zone i)) ∨
    (∃ i, (∃ r ∈ s.zt.incoming[i]?, r.book.openTime = some 0) ∧ c = .openTimeExpiry (.incoming i)) ∨
    (s.heat.holdOff = some 0 ∧ c = .holdOffExpiry) := by
  have hindex {α : Type} {l : List α} {i : Nat} {P : α → Prop} (h : ∃ x ∈ l[i]?, P x) : i < l.length := by
    obtain ⟨x, hx, -⟩ := h
    exact (List.getElem?_eq_some_iff.mp hx).1
  unfold State.dueActive
  simp only [List.mem_append, List.mem_flatMap, mem_dueIf, runOut_iff, zoneOut_iff, incomingOut_iff, List.mem_finRange,
    true_and, List.mem_range, or_assoc]
  refine or_congr Iff.rfl (or_congr ?_ (or_congr ?_ Iff.rfl))
  all_goals exact exists_congr fun i => ⟨And.right, fun h => ⟨hindex h.1, h⟩⟩

/-- The expiries due in RUNNING only. -/
theorem mem_dueRunning (s : State) (c : Instr) : c ∈ s.dueRunning ↔
    (s.mem.beaconTimer = some 0 ∧ c = .beaconTimerExpiry) ∨ (s.rd.window = some 0 ∧ c = .readWindowExpiry) ∨
    ((∃ z ∈ s.zt.zone, z.adoption = some 0) ∧ c = .adoptionDistanceExpiry) ∨
    ((∃ r ∈ s.zt.incoming.head?, r.transit = 0) ∧ c = .transitDistanceExpiry) ∨
    ((∃ w ∈ s.work.cycle, w.kind = .marry ∧ w.left = 0) ∧ c = .cycleTimeout) ∨
    ((∃ w ∈ s.work.cycle, w.kind = .skip ∧ w.left = 0) ∧ c = .skipTimeout) ∨
    ((s.heat.claim = .waiting ∧ s.heat.claimWait = some 0) ∧ c = .claimWaitLimit) ∨
    ((s.heat.due = false ∧ ∃ left ∈ s.heat.warmLeft, left ≤ s.keepwarmMs / 2) ∧ c = .keepwarmDue) ∨
    (s.heat.warmLeft = some 0 ∧ c = .warmTimerExpiry) ∨ (s.heat.burst = some 0 ∧ c = .burstEnd) ∨
    ((s.work.press = .heat ∧ ∃ h ∈ s.work.heat, (h.preheat + h.book) * 100 ≤ h.elapsed) ∧ c = .heatPhaseEnd) ∨
    ((s.work.press = .set ∧ s.work.setLeft = some 0) ∧ c = .setEnd) ∨
    ((s.work.press = .suspended ∧ s.work.suspendLeft = some 0) ∧ c = .maxSuspendExpiry) ∨
    (s.work.divert = some 0 ∧ c = .confirmDistanceExpiry) := by
  unfold State.dueRunning State.keepwarmOut State.heatOut
  simp [mem_dueIf, runOut_iff, cycleOut_iff, Option.any_eq_true]

/-- Expiries are due in JOINING and in RUNNING only (R46). -/
theorem active_of_expiryDue {s : State} {c : Instr} (h : expiryDue s c) :
    s.mem.station = .joining ∨ s.mem.station = .running := by
  unfold expiryDue at h
  split at h <;> simp_all

/-- What the clock finds due is what the rules call due, in every station state (log entry 4). -/
theorem mem_dueNow (s : State) (c : Instr) : c ∈ s.dueNow ↔ expiryDue s c := by
  unfold State.dueNow
  split
  next hs =>
    rw [List.mem_append, mem_dueActive, mem_dueIf, runOut_iff]
    constructor
    · rintro ((⟨p, h, rfl⟩ | ⟨i, h, rfl⟩ | ⟨i, h, rfl⟩ | ⟨h, rfl⟩) | ⟨h, rfl⟩)
      all_goals simpa [expiryDue, hs] using h
    · intro h
      unfold expiryDue at h
      split at h <;> simp_all
  next hs =>
    rw [List.mem_append, mem_dueActive, mem_dueRunning]
    constructor
    · rintro ((⟨p, h, rfl⟩ | ⟨i, h, rfl⟩ | ⟨i, h, rfl⟩ | ⟨h, rfl⟩) | h)
      any_goals simpa [expiryDue, hs] using h
      rcases h with ⟨h, rfl⟩ | ⟨h, rfl⟩ | ⟨h, rfl⟩ | ⟨h, rfl⟩ | ⟨h, rfl⟩ | ⟨h, rfl⟩ | ⟨h, rfl⟩ | ⟨h, rfl⟩ | ⟨h, rfl⟩ |
        ⟨h, rfl⟩ | ⟨h, rfl⟩ | ⟨h, rfl⟩ | ⟨h, rfl⟩ | ⟨h, rfl⟩
      all_goals simpa [expiryDue, hs] using h
    · intro h
      unfold expiryDue at h
      split at h <;> simp_all
  next hs =>
    refine ⟨fun h => absurd h List.not_mem_nil, fun h => ?_⟩
    rcases active_of_expiryDue h with ha | ha <;> rw [hs] at ha <;> cases ha
  next hs =>
    refine ⟨fun h => absurd h List.not_mem_nil, fun h => ?_⟩
    rcases active_of_expiryDue h with ha | ha <;> rw [hs] at ha <;> cases ha

/-! ### The part's own clock -/

theorem lastStepOver_iff (n : Notice) : n.lastStepOver = true ↔ lastDsOver n := by
  unfold Notice.lastStepOver lastDsOver
  split
  · simp
  next h => simpa using fun target b step hn => absurd hn (h target b step)

theorem endOpenTime_eq (e : TxEntry) : e.endOpenTime = { e with notice := noticeEnds e.notice } := by
  unfold TxEntry.endOpenTime noticeEnds
  cases hn : e.notice with
  | handover target b step =>
    dsimp only
    by_cases hover : b.openTime = some 1 ∧ 100 ≤ step
    · rw [if_pos hover, if_pos ((handover_lastStepOver_iff target b step).mpr hover)]
      rfl
    · rw [if_neg hover, if_neg (mt (handover_lastStepOver_iff target b step).mp hover), ← hn]
  | _ => exact congrArg (TxEntry.mk · e.failures) hn

theorem runOpenTime_eq (t : Option Nat) (n : Nat) : runOpenTime t n = openTimeRun t n := by
  unfold runOpenTime openTimeRun
  split <;> rfl

theorem txRunMs_eq (e : TxEntry) : e.runMs = { e with notice := noticeRun e.notice } := by
  unfold TxEntry.runMs noticeRun runQueuedTime
  cases hn : e.notice with
  | handover target b step =>
    dsimp only
    split
    next h => rw [← h]; rfl
    · rw [runOpenTime_eq]; rfl
  | _ => exact congrArg (TxEntry.mk · e.failures) hn

/-- An expiry that is due is raised (log entry 4). -/
theorem idle_of_due {s : State} (h : ∃ c, expiryDue s c) : ∃ c, expiryDue s c ∧ s.idle = s.raise c := by
  obtain ⟨c, hc⟩ := h
  have hmem := (mem_dueNow s c).mpr hc
  unfold State.idle
  split
  next hnil => rw [hnil] at hmem; cases hmem
  next d hone => exact ⟨d, (mem_dueNow s d).mp (by rw [hone]; exact List.mem_singleton_self d), rfl⟩
  next d more _ hmany =>
    refine ⟨_, (mem_dueNow s _).mp ?_, rfl⟩
    have hlt : Config.pick s.freeCount % (more.length + 1) < (d :: more).length := Nat.mod_lt _ (Nat.succ_pos _)
    rw [hmany, List.getD_eq_getElem _ _ hlt]
    exact List.getElem_mem hlt

/-- With no expiry due the open time that is over in the queue ends, or a millisecond passes. -/
theorem idle_of_not_due {s : State} (h : ∀ c, ¬ expiryDue s c) :
    s.idle = if s.queuedTimeOver then s.endQueuedTimes else s.passMs := by
  have hnil : s.dueNow = [] := List.eq_nil_iff_forall_not_mem.mpr fun c hc => h c ((mem_dueNow s c).mp hc)
  unfold State.idle
  rw [hnil]

theorem queuedTimeOver_iff {s : State} (hs : s.isActive) :
    s.queuedTimeOver = true ↔ ∃ e ∈ s.bus.txq, lastDsOver e.notice := by
  unfold State.queuedTimeOver
  simp [hs, lastStepOver_iff]

theorem passMs_of_active {s : State} (hs : s.isActive) : s.passMs = msPassed s := by
  have hzone : ZoneRecord.runMs = fun z => { z with
      book := { z.book with openTime := (openTimeRun z.book.openTime z.step).1 }
      step := (openTimeRun z.book.openTime z.step).2 } := by
    funext z
    rw [← runOpenTime_eq]
    rfl
  have hincoming : IncomingRecord.runMs = fun r => { r with
      book := { r.book with openTime := (openTimeRun r.book.openTime r.step).1 }
      step := (openTimeRun r.book.openTime r.step).2 } := by
    funext r
    rw [← runOpenTime_eq]
    rfl
  unfold State.passMs
  rw [if_pos hs]
  unfold State.runTimers
  rw [hzone, hincoming, funext txRunMs_eq]
  rfl

/-- Settles O2: the clock raises an expiry that is due, and with none due one millisecond passes. -/
theorem emptyQueueRunsTheClock : Obligations.EmptyQueueRunsTheClock := by
  intro s hempty
  rw [step_of_empty hempty]
  refine ⟨fun h => ?_, fun h => ⟨fun hs => ?_, fun hs => ?_⟩⟩
  · obtain ⟨c, hc, hidle⟩ := idle_of_due h
    refine ⟨c, hc, ?_⟩
    rw [hidle, State.raise, hempty]
  · rw [idle_of_not_due h]
    refine ⟨fun hq => ?_, fun hq => ?_⟩
    · have hover : ¬ s.queuedTimeOver = true := fun ho => by
        obtain ⟨e, he, hn⟩ := (queuedTimeOver_iff hs).mp ho
        exact hq e he hn
      rw [if_neg hover, passMs_of_active hs]
    · rw [if_pos ((queuedTimeOver_iff hs).mpr hq), State.endQueuedTimes, funext endOpenTime_eq]
  · have hidle := not_isActive_of_config_or_halted hs
    rw [idle_of_not_due h, State.queuedTimeOver, decide_eq_false hidle, Bool.false_and, State.passMs, if_neg hidle]
    rfl

end Sys2Proof.Machine

/-! ## The outputs, and a station that stands still (O55) -/

namespace Sys2Proof.Machine

/-- The downstream peer is the lowest known member above the own position (R78). -/
theorem peer_eq_some_iff (s : State) (p : Pos) : s.peer = some p ↔ peerIs s p := by
  unfold State.peer peerIs
  rw [List.find?_eq_some_iff_getElem]
  simp only [Bool.and_eq_true, decide_eq_true_eq, bne_iff_ne, ne_eq, List.length_finRange, List.getElem_finRange,
    and_assoc]
  refine and_congr_right fun hlt => and_congr_right fun _ => ⟨?_, fun h => ⟨p.val, p.isLt, rfl, fun j hj => ?_⟩⟩
  · rintro ⟨i, hi, rfl, h⟩ q hq hqp
    simpa [hq] using h q.val hqp
  · have := h ⟨j, hj.trans p.isLt⟩
    simp only [Bool.not_eq_true', Bool.and_eq_false_iff, decide_eq_false_iff_not, bne_eq_false_iff_eq]
    exact or_iff_not_imp_left.mpr fun hown => this (not_not.mp hown) hj

/-- The downstream peer is open: RUNNING, not foreign, and its room heard open (R78). -/
theorem peerOpen_iff (s : State) : s.peerOpen = true ↔ ∃ p, peerIs s p ∧ (s.mem.members[p]).status = .running ∧
    (s.mem.members[p]).foreign = false ∧ s.zt.roomHeard[p] = true := by
  unfold State.peerOpen State.memberOpen
  simp [Option.any_eq_true, peer_eq_some_iff, and_assoc]

theorem runs_iff (s : State) : s.runs = true ↔ s.mem.station = .running := beq_iff_eq

theorem headFailed_iff (s : State) :
    s.headFailed = true ↔ ∃ z rest, s.zt.zone = z :: rest ∧ z.divertFailed = true := by
  unfold State.headFailed
  cases s.zt.zone <;> simp

theorem atWork?_isSome_iff (s : State) : s.atWork?.isSome = true ↔ ∃ z ∈ s.zt.zone, z.phase = .atWork := by
  unfold State.atWork?
  simp [List.find?_isSome]

theorem cycleIs_iff (s : State) (k : CycleKind) :
    s.cycleIs k = true ↔ ∃ y, s.work.cycle = some y ∧ y.kind = k := by
  unfold State.cycleIs
  simp [Option.any_eq_true]

theorem isEmpty_iff (r : Reasons) : r.isEmpty = true ↔ r = Reasons.empty := by
  unfold Reasons.isEmpty
  exact beq_iff_eq

/-- Every output is on exactly while its rule's conditions hold. -/
theorem outputs_by_rule (s : State) : outputsByRule s := by
  refine ⟨?_, ?_, ?_, ?_, ?_, ?_, ?_, ?_, ?_⟩
  · unfold State.heater State.ownHolds
    simp only [Bool.and_eq_true, Bool.or_eq_true, runs_iff, List.contains_iff_mem, Option.isSome_iff_ne_none, and_assoc]
  · unfold State.conveyorRun
    simp only [Bool.and_eq_true, runs_iff, lineRunning_iff, isEmpty_iff, and_assoc]
  · unfold State.exitHold
    simp only [Bool.and_eq_true, Bool.or_eq_true, Bool.not_eq_true', runs_iff, headFailed_iff, ← peerOpen_iff,
      Bool.not_eq_true]
  · unfold State.workStop
    simp only [Bool.and_eq_true, runs_iff, atWork?_isSome_iff]
  · unfold State.cycleStart
    simp only [Bool.and_eq_true, runs_iff, cycleIs_iff]
  · unfold State.skipOutput
    simp only [Bool.and_eq_true, runs_iff, cycleIs_iff]
  · unfold State.clamp
    simp only [Bool.and_eq_true, runs_iff, bne_iff_ne]
  · unfold State.feederStop
    simp only [Bool.and_eq_true, runs_iff, hasMagazine_iff, and_assoc]
  · unfold State.divertOutput
    simp only [Bool.and_eq_true, runs_iff, Option.isSome_iff_ne_none]

/-- Outside RUNNING every output is off (R46, R75, R102). -/
theorem outputsOff_of_not_runs {s : State} (h : s.runs = false) : outputsOff s := by
  simp [outputsOff, State.conveyorRun, State.exitHold, State.workStop, State.cycleStart, State.skipOutput,
    State.clamp, State.heater, State.feederStop, State.divertOutput, State.admitOutput, h]

/-- A HALTED station that obeys the laws of the bus stands still. -/
theorem standsStill_of_halted {s : State} (hs : s.mem.station = .halted) (hb : s.busLawful) : s.standsStill := by
  obtain ⟨hatt, hidle, -⟩ := hb
  have hoff : ¬ s.isActive := not_isActive_of_config_or_halted (.inr hs)
  exact ⟨hoff, by simpa using mt hatt.mp hoff, (hidle hoff).2.1⟩

/-- Settles O55: each output by its rule; a HALTED station is detached, so that events have no effect, and a
transaction is refused or reads. -/
theorem haltedStationsStandStill : Obligations.HaltedStationsStandStill := by
  refine ⟨outputs_by_rule, fun c s hs hb => ⟨outputsOff_of_not_runs ?_, fun hc => ?_, fun hc hreset => ?_⟩⟩
  · unfold State.runs
    rw [hs]
    rfl
  · exact exec_of_standsStill hc (standsStill_of_halted hs hb)
  · cases hconf : isConfiguring c with
    | true => exact exec_configuring_of_halted hconf hs
    | false =>
      refine exec_transaction_of_not_active hc ?_ hconf (not_isActive_of_config_or_halted (.inr hs))
      rintro ⟨straps, h | h | h⟩
      · exact (hreset straps).1 h
      · exact (hreset straps).2.1 h
      · exact (hreset straps).2.2 h

end Sys2Proof.Machine

/-! ## The reads of the station port (O4 to O10)

A read goes on with the transaction that is open, or begins its own with the port released. -/

namespace Sys2Proof.Machine

/-- With no transaction open, opening the port clears the data output alone. -/
theorem openPort_of_free {s : State} (h : portFree s) :
    s.openPort = { s with port := { s.port with dataOut := [] } } := by
  obtain ⟨hw, hr⟩ := h
  unfold State.openPort State.releasePort PortUnit.resultAtRelease
  rw [hw, hr]
  cases hp : s.port
  simp_all

/-- A read that begins at a free port. -/
theorem beginRead_of_free (c : PortRead) {s : State} (h : portFree s) : s.beginRead c = { s with port := { s.port with
    dataOut := []
    since := if c = .latches then Vector.replicate 17 false else s.port.since
    reading := some ⟨c, s.imageOf c, 0, s.refusalOf c, s.port.latches, false⟩ } } := by
  unfold State.beginRead
  rw [openPort_of_free h]
  cases c <;> rfl

/-- The state in which a read clocks its bits: as it stands with its transaction open, else with it begun. -/
def State.readOpened (c : PortRead) (s : State) : State :=
  if s.port.reading.any fun r => r.command == c then s else s.beginRead c

/-- `n` bits clocked, and select released or held. -/
def State.clocked (n : Nat) (released : Bool) (s : State) : State :=
  if released then (s.clockRead n).releasePort else s.clockRead n

theorem read_eq_clocked (c : PortRead) (n : Nat) (released : Bool) (s : State) :
    s.read c n released = (s.readOpened c).clocked n released := rfl

/-- A read whose transaction is open goes on. -/
theorem readOpened_of_open {c : PortRead} {r : Reading} {s : State} (hr : s.port.reading = some r)
    (hc : r.command = c) : s.readOpened c = s := by
  unfold State.readOpened
  rw [if_pos (by simp [hr, hc])]

/-- A read whose transaction is not open begins it. -/
theorem readOpened_of_begin {c : PortRead} {s : State} (h : ∀ r ∈ s.port.reading, r.command ≠ c) :
    s.readOpened c = s.beginRead c := by
  unfold State.readOpened
  rw [if_neg (by simpa [Option.any_eq_true] using h)]

/-- A read opened stands in its transaction. -/
theorem readOpened_reading (c : PortRead) (s : State) :
    ∃ r, (s.readOpened c).port.reading = some r ∧ r.command = c := by
  unfold State.readOpened
  split
  next h =>
    obtain ⟨r, hr, hc⟩ := (Option.any_eq_true _ _).mp h
    exact ⟨r, hr, by simpa using hc⟩
  · exact ⟨_, rfl, rfl⟩

/-- Select released with a read open (R179, R180). -/
theorem releasePort_of_reading {s : State} {r : Reading} (h : s.port.reading = some r) :
    s.releasePort = readReleased r r.bits s := by
  unfold State.releasePort readReleased PortUnit.resultAtRelease
  rw [h]
  simp only [ne_eq, ite_not]

/-- The bits of a fixed image go out (R179). -/
theorem clocked_of_shift {n : Nat} {r : Reading} (released : Bool) {s : State}
    (h : s.port.clock n = s.port.shift n r) : s.clocked n released = imageShifted r n released s := by
  unfold State.clocked State.clockRead imageShifted
  rw [h]
  cases released with
  | true =>
    rw [if_pos rfl, if_pos rfl, releasePort_of_reading (s := { s with port := s.port.shift n r }) rfl]
    rfl
  | false => rfl

/-- A read of an image that neither clears latches nor takes journal entries. -/
theorem clock_of_fixed {n : Nat} {r : Reading} {p : PortUnit} (hr : p.reading = some r)
    (hl : r.command ≠ .latches) (hj : r.command ≠ .journal) : p.clock n = p.shift n r := by
  unfold PortUnit.clock
  rw [hr]
  dsimp only
  split
  next h => exact absurd h hl
  next h => exact absurd h hj
  all_goals rfl

/-- A read of a fixed image, at its beginning or open: the rest of its image goes out (R179). -/
theorem read_of_readAt {c : PortRead} {r : Reading} (n : Nat) (released : Bool) {s : State}
    (hl : c ≠ .latches) (hj : c ≠ .journal) (h : readAt c (s.imageOf c) (s.refusalOf c) s r) :
    s.read c n released = imageShifted r n released s := by
  rw [read_eq_clocked]
  rcases h with ⟨hr, hc⟩ | ⟨hfree, hr⟩
  · rw [readOpened_of_open hr hc]
    exact clocked_of_shift released (clock_of_fixed hr (by rwa [hc]) (by rwa [hc]))
  · rw [readOpened_of_begin (by rw [hfree.2]; nofun), beginRead_of_free c hfree, if_neg hl]
    rw [clocked_of_shift (r := r) released (clock_of_fixed (by rw [hr]) (by rwa [hr]) (by rwa [hr]))]
    cases released <;> rfl

/-! ### The status image -/

theorem readStatus_of_readAt (n : Nat) (released : Bool) {s : State} {r : Reading}
    (h : readAt .status s.statusImage none s r) :
    exec (.status n released) s = .next (imageShifted r n released s) :=
  congrArg _ (read_of_readAt (c := .status) n released nofun nofun h)

theorem statusStation_length (s : State) : s.statusStation.length = 8 := rfl

theorem stopSetBytes_length (t : Vector Reasons 16) : (stopSetBytes t).length = 10 := by simp [stopSetBytes]

theorem statusLine_length (s : State) : s.statusLine.length = 28 := by simp [State.statusLine, stopSetBytes_length]

theorem statusZone_length (s : State) : s.statusZone.length = 5 := rfl

theorem statusIdentity_length (s : State) : s.statusIdentity.length = 4 := rfl

theorem statusWork_length (s : State) : s.statusWork.length = 4 := rfl

theorem statusParts_length (s : State) : s.statusParts.length = 4 := by
  unfold State.statusParts
  split <;> rfl

theorem statusHeat_length (s : State) : s.statusHeat.length = 22 := by
  unfold State.statusHeat
  split
  · simp [nat2, bytes2, emptyImage]
  · rfl

theorem statusCounts_length (s : State) : s.statusCounts.length = 6 := rfl

section
/-! A piece `p` of `k` bytes stands in the image at place `i`: the bytes and runs of bytes within it are those of `p`. -/
variable {l p : List Byte} {i k : Nat}

theorem getElem?_of_piece {j : Nat} (h : (l.drop i).take k = p) (hj : j < k) : l[i + j]? = p[j]? := by
  rw [← h, List.getElem?_take_of_lt hj, List.getElem?_drop]

theorem take_of_piece {j m : Nat} (h : (l.drop i).take k = p) (hm : j + m ≤ k) :
    (l.drop (i + j)).take m = (p.drop j).take m := by
  rw [← h, List.drop_take, List.drop_drop, List.take_take, min_eq_left (by omega)]

end

section
variable (s : State)

/-- The pieces of the status image and where they stand (12.2). -/
theorem statusImage_pieces :
    (s.statusImage.drop 0).take 8 = s.statusStation ∧ (s.statusImage.drop 8).take 28 = s.statusLine ∧
    (s.statusImage.drop 36).take 5 = s.statusZone ∧ (s.statusImage.drop 41).take 4 = s.statusIdentity ∧
    (s.statusImage.drop 45).take 4 = s.statusWork ∧ (s.statusImage.drop 49).take 4 = s.statusParts ∧
    (s.statusImage.drop 53).take 22 = s.statusHeat ∧ (s.statusImage.drop 75).take 6 = s.statusCounts := by
  have hstation := statusStation_length s
  have hline := statusLine_length s
  have hzone := statusZone_length s
  have hidentity := statusIdentity_length s
  have hwork := statusWork_length s
  have hparts := statusParts_length s
  have hheat := statusHeat_length s
  have hnext {i k : Nat} {p rest : List Byte} (h : s.statusImage.drop i = p ++ rest) (hp : p.length = k) :
      s.statusImage.drop (i + k) = rest := by rw [← List.drop_drop, h, List.drop_left' hp]
  have h0 : s.statusImage.drop 0 = s.statusStation ++ (s.statusLine ++ (s.statusZone ++ (s.statusIdentity ++
      (s.statusWork ++ (s.statusParts ++ (s.statusHeat ++ s.statusCounts)))))) := by
    simp only [State.statusImage, List.append_assoc, List.drop_zero]
  have h8 := hnext h0 hstation
  have h36 := hnext h8 hline
  have h41 := hnext h36 hzone
  have h45 := hnext h41 hidentity
  have h49 := hnext h45 hwork
  have h53 := hnext h49 hparts
  have h75 := hnext h53 hheat
  refine ⟨?_, ?_, ?_, ?_, ?_, ?_, ?_, ?_⟩
  · rw [h0, List.take_left' hstation]
  · rw [h8, List.take_left' hline]
  · rw [h36, List.take_left' hzone]
  · rw [h41, List.take_left' hidentity]
  · rw [h45, List.take_left' hwork]
  · rw [h49, List.take_left' hparts]
  · rw [h53, List.take_left' hheat]
  · rw [h75]
    rfl

theorem statusImage_length : s.statusImage.length = 81 := by
  unfold State.statusImage
  simp only [List.length_append, statusStation_length, statusLine_length, statusZone_length, statusIdentity_length,
    statusWork_length, statusParts_length, statusHeat_length, statusCounts_length]

/-- Bytes 39 and 40 (R78). -/
theorem statusZone_bytes : statusZoneBytes s := by
  obtain ⟨-, -, hzone, -⟩ := statusImage_pieces s
  refine ⟨?_, fun p hp => ?_, fun hp => ?_⟩
  · rw [getElem?_of_piece (j := 3) hzone (by decide), State.statusZone]
    rcases s.zt.announced with _ | _ | _ <;> rfl
  · rw [getElem?_of_piece (j := 4) hzone (by decide), State.statusZone, (peer_eq_some_iff s p).mpr hp]
    rfl
  · have hnone : s.peer = none := by
      by_contra hsome
      obtain ⟨p, hpeer⟩ := Option.ne_none_iff_exists'.mp hsome
      exact hp p ((peer_eq_some_iff s p).mp hpeer)
    rw [getElem?_of_piece (j := 4) hzone (by decide), State.statusZone, hnone]
    rfl

/-- Bytes 45 to 48 (12.2). -/
theorem statusWork_bytes : statusWorkBytes s := by
  obtain ⟨-, -, -, -, hwork, -⟩ := statusImage_pieces s
  have hcode : s.statusImage[45]? = some (nat1 s.workCode) := getElem?_of_piece (j := 0) hwork (by decide)
  have hrecord := take_of_piece (j := 1) (m := 3) hwork (by decide)
  unfold State.workCode at hcode
  refine ⟨fun hr => ?_, fun hr => ?_, fun hr => ?_, fun hr => ?_, fun hr => ?_, ?_⟩
  · rw [hr] at hcode
    exact hcode
  · rcases hr with hr | hr <;> rw [hr] at hcode <;> exact hcode
  · rw [hr] at hcode
    exact hcode
  · rw [hr] at hcode
    exact hcode
  · rw [hr] at hcode
    exact hcode
  · rw [hrecord, State.statusWork, State.workTag]
    cases s.atWork? <;> rfl

theorem ownHolds_iff : s.ownHolds = true ↔ s.own ∈ s.heat.holders := List.contains_iff_mem

theorem waitPlace_isSome_iff : s.waitPlace.isSome = true ↔ ∃ e ∈ s.heat.waits, e.position = s.own := by
  unfold State.waitPlace
  simp

/-- Bytes 49 to 74 (12.2, R194). -/
theorem statusRole_bytes : statusRoleBytes s := by
  obtain ⟨-, -, -, -, -, hparts, hheat, -⟩ := statusImage_pieces s
  refine ⟨?_, fun hr => ?_, fun hr => ?_⟩
  · rw [hparts, State.statusParts]
    by_cases hm : s.role = some .case ∨ s.role = some .jacket
    · rw [if_pos hm, if_pos ((hasMagazine_iff s).mpr hm)]
    · rw [if_neg hm, if_neg (mt (hasMagazine_iff s).mp hm)]
      rfl
  · rw [hheat, State.statusHeat, if_neg hr]
    rfl
  · have hplace : nat1 (if s.ownHolds then 1 else if s.waitPlace.isSome then 2 else 0)
        = if s.own ∈ s.heat.holders then 1 else if ∃ e ∈ s.heat.waits, e.position = s.own then 2 else 0 := by
      simp only [← ownHolds_iff, ← waitPlace_isSome_iff]
      split_ifs <;> rfl
    rw [hheat, State.statusHeat, if_pos hr, hplace]
    rfl

end

/-- Settles O4: a read of a fixed image, and the bytes of that image. -/
theorem statusShiftsOutItsImage : Obligations.StatusShiftsOutItsImage := by
  refine ⟨fun n released s r h => readStatus_of_readAt n released h, fun s => ?_⟩
  obtain ⟨hstation, hline, hzone, hidentity, -, -, -, hcounts⟩ := statusImage_pieces s
  refine ⟨statusImage_length s, ?_, ?_, ?_, ?_, ?_, ?_, ?_, ?_, statusZone_bytes s, ?_, statusWork_bytes s,
    statusRole_bytes s, hcounts⟩
  · exact take_of_piece (j := 0) (m := 4) hstation (by decide)
  · exact take_of_piece (j := 4) (m := 3) hstation (by decide)
  · exact getElem?_of_piece (j := 7) hstation (by decide)
  · exact getElem?_of_piece (j := 0) hline (by decide)
  · exact getElem?_of_piece (j := 1) hline (by decide)
  · exact take_of_piece (j := 2) (m := 10) hline (by decide)
  · rw [take_of_piece (j := 12) (m := 16) hline (by decide)]
    simp [State.statusLine, stopSetBytes_length]
  · exact take_of_piece (j := 0) (m := 3) hzone (by decide)
  · rw [hidentity, State.statusIdentity]
    cases s.rd.slot <;> rfl

/-! ### READ RECORD and READ MAGAZINE -/

/-- Settles O5: the image and the refusal that the read fixes are those of the item that its arguments name. -/
theorem readsShowTheItemNamed : Obligations.ReadsShowTheItemNamed := by
  refine ⟨fun list index n released s r => ?_, fun index n released s r => ?_⟩
  · have hread {image : List Byte} {refusal : Option PortResult} (hi : s.imageOf (.record list index) = image)
        (hrefusal : s.refusalOf (.record list index) = refusal) (h : readAt (.record list index) image refusal s r) :
        exec (.readRecord list index n released) s = .next (imageShifted r n released s) := by
      subst hi hrefusal
      exact congrArg _ (read_of_readAt (c := .record list index) n released nofun nofun h)
    refine ⟨fun z hl hz => ?_, fun i hl hi => ?_, fun hzone hincoming => ?_⟩
    · have hat : s.recordAt list index = some (s.zoneImage z) := by rw [State.recordAt, if_pos hl, hz]; rfl
      exact hread (by rw [State.imageOf, hat]; rfl) (by rw [State.refusalOf, hat]; rfl)
    · have hat : s.recordAt list index = some (s.incomingImage i) := by
        rw [State.recordAt, if_neg (by rw [hl]; decide), if_pos hl, hi]
        rfl
      exact hread (by rw [State.imageOf, hat]; rfl) (by rw [State.refusalOf, hat]; rfl)
    · have hat : s.recordAt list index = none := by
        unfold State.recordAt
        split_ifs with hl hl
        · rw [List.getElem?_eq_none (hzone hl), Option.map_none]
        · rw [List.getElem?_eq_none (hincoming hl), Option.map_none]
        · rfl
      exact hread (by rw [State.imageOf, hat]; rfl) (by rw [State.refusalOf, hat]; rfl)
  · have hread {image : List Byte} {refusal : Option PortResult} (hi : s.imageOf (.magazine index) = image)
        (hrefusal : s.refusalOf (.magazine index) = refusal) (h : readAt (.magazine index) image refusal s r) :
        exec (.readMagazine index n released) s = .next (imageShifted r n released s) := by
      subst hi hrefusal
      exact congrArg _ (read_of_readAt (c := .magazine index) n released nofun nofun h)
    simp only [← hasMagazine_iff]
    refine ⟨fun hm => ?_, fun hm => ?_⟩
    · exact hread (by rw [State.imageOf, State.magazineImage, if_neg hm]; rfl)
        (by rw [State.refusalOf, State.magazineResult, if_pos hm])
    · have hnamed {image : List Byte} (hat : s.partAt index = some image) :
          readAt (.magazine index) image none s r →
            exec (.readMagazine index n released) s = .next (imageShifted r n released s) :=
        hread (by rw [State.imageOf, State.magazineImage, if_pos hm, hat]; rfl)
          (by rw [State.refusalOf, State.magazineResult, if_neg (not_not.mpr hm), hat]; rfl)
      refine ⟨fun e hlt he => hnamed ?_, fun v hge hlt hv => hnamed ?_, fun hmagazine hvoids => ?_⟩
      · rw [State.partAt, if_pos hlt, he]
        rfl
      · rw [State.partAt, if_neg (Nat.not_lt.mpr hge), if_pos hlt, hv]
        rfl
      · have hat : s.partAt index = none := by
          unfold State.partAt
          split_ifs with h24 h40
          · rw [List.getElem?_eq_none (hmagazine h24), Option.map_none]
          · rw [List.getElem?_eq_none (hvoids (Nat.not_lt.mp h24) h40), Option.map_none]
          · rfl
        exact hread (by rw [State.imageOf, State.magazineImage, if_pos hm, hat]; rfl)
          (by rw [State.refusalOf, State.magazineResult, if_neg (not_not.mpr hm), hat]; rfl)

end Sys2Proof.Machine

namespace Sys2Proof.Machine

/-! ### Bits clocked one by one

A journal read is made of single bits: whatever fuel suffices, it is the step of one bit iterated (R191). -/

/-- One more bit of READ JOURNAL. -/
def PortUnit.bitStep (p : PortUnit) : PortUnit :=
  match p.reading with
  | none => p
  | some r => p.shiftEntry 1 r

theorem bitStep_of_reading {p : PortUnit} {r : Reading} (h : p.reading = some r) : p.bitStep = p.shiftEntry 1 r := by
  unfold PortUnit.bitStep
  rw [h]

/-- The reading that stands while bit `r.bits` of an entry goes out: with the head copied at its beginning. -/
def Reading.entryCopied (journal : List JournalEntry) (r : Reading) : Reading :=
  if r.bits % 64 = 0 then r.copyHead journal else r

theorem entryCopied_bits (j : List JournalEntry) (r : Reading) : (r.entryCopied j).bits = r.bits := by
  unfold Reading.entryCopied Reading.copyHead
  split
  · split <;> rfl
  · rfl

theorem entryCopied_command (j : List JournalEntry) (r : Reading) : (r.entryCopied j).command = r.command := by
  unfold Reading.entryCopied Reading.copyHead
  split
  · split <;> rfl
  · rfl

/-- Bits within an entry, not to its end. -/
theorem shiftEntry_of_lt {n : Nat} {r : Reading} {p : PortUnit} (h : r.bits % 64 + n < 64) :
    p.shiftEntry n r = { p with
      dataOut := p.dataOut ++ ((imageBits (r.entryCopied p.journal).image).drop (r.bits % 64)).take n
      reading := some { r.entryCopied p.journal with bits := r.bits + n } } := by
  have hends : ¬ r.bits % 64 + n = 64 := by omega
  unfold PortUnit.shiftEntry Reading.entryCopied
  simp [hends]

/-- Bits up to the end of an entry. -/
theorem shiftEntry_of_eq {n : Nat} {r : Reading} {p : PortUnit} (h : r.bits % 64 + n = 64) :
    p.shiftEntry n r = { p with
      dataOut := p.dataOut ++ ((imageBits (r.entryCopied p.journal).image).drop (r.bits % 64)).take n
      journal := if (r.entryCopied p.journal).copied then p.journal.drop 1 else p.journal
      reading := some { r.entryCopied p.journal with bits := r.bits + n, copied := false } } := by
  unfold PortUnit.shiftEntry Reading.entryCopied
  simp [h]

/-- One bit more within an entry. -/
theorem shiftEntry_succ {n : Nat} {r : Reading} {p : PortUnit} (hn : 0 < n) (h : r.bits % 64 + n < 64) :
    p.shiftEntry (n + 1) r = (p.shiftEntry n r).bitStep := by
  have hmod : (r.bits + n) % 64 = r.bits % 64 + n := by omega
  have hopen : ¬ (r.bits + n) % 64 = 0 := by omega
  have hcopied : Reading.entryCopied p.journal { r.entryCopied p.journal with bits := r.bits + n }
      = { r.entryCopied p.journal with bits := r.bits + n } := if_neg hopen
  rw [shiftEntry_of_lt h, bitStep_of_reading rfl]
  by_cases hend : r.bits % 64 + n + 1 = 64
  · rw [shiftEntry_of_eq (n := n + 1) hend, shiftEntry_of_eq (n := 1) (by dsimp only; omega)]
    dsimp only
    rw [hcopied, hmod, List.take_add, List.drop_drop, List.append_assoc]
    rfl
  · rw [shiftEntry_of_lt (n := n + 1) (by omega), shiftEntry_of_lt (n := 1) (by dsimp only; omega)]
    dsimp only
    rw [hcopied, hmod, List.take_add, List.drop_drop, List.append_assoc]
    rfl

theorem shiftEntry_eq_iterate {n : Nat} {r : Reading} {p : PortUnit} (hr : p.reading = some r) (hn : 0 < n)
    (h : r.bits % 64 + n ≤ 64) : p.shiftEntry n r = PortUnit.bitStep^[n] p := by
  induction n, hn using Nat.le_induction with
  | base => exact (bitStep_of_reading hr).symm
  | succ n hn ih =>
    rw [shiftEntry_succ hn (by omega), ih (by omega), Function.iterate_succ_apply']

theorem shiftEntry_reading (n : Nat) (r : Reading) (p : PortUnit) :
    ∃ r', (p.shiftEntry n r).reading = some r' ∧ r'.bits = r.bits + n ∧ r'.command = r.command :=
  ⟨_, rfl, rfl, entryCopied_command p.journal r⟩

/-- With fuel enough for `n` bits, READ JOURNAL clocks `n` single bits. -/
theorem shiftJournal_eq_iterate {fuel n : Nat} {r : Reading} {p : PortUnit} (hr : p.reading = some r)
    (h : n ≠ 0 → r.bits % 64 + n ≤ 64 * fuel) : p.shiftJournal fuel n = PortUnit.bitStep^[n] p := by
  induction fuel generalizing n r p with
  | zero =>
    obtain rfl : n = 0 := by omega
    rfl
  | succ k ih =>
    unfold PortUnit.shiftJournal
    rw [hr]
    dsimp only
    split
    next hn => rw [hn]; rfl
    next hn =>
      obtain ⟨r', hr', hbits, -⟩ := shiftEntry_reading (min n (64 - r.bits % 64)) r p
      have hnow : min n (64 - r.bits % 64) ≤ n := Nat.min_le_left _ _
      rw [ih hr' (by rw [hbits]; omega), shiftEntry_eq_iterate hr (by omega) (by omega),
        ← Function.iterate_add_apply, Nat.sub_add_cancel hnow]

theorem clock_of_journal {n : Nat} {r : Reading} {p : PortUnit} (hr : p.reading = some r) (hc : r.command = .journal) :
    p.clock n = PortUnit.bitStep^[n] p := by
  unfold PortUnit.clock
  rw [hr]
  dsimp only
  rw [hc]
  exact shiftJournal_eq_iterate hr (by omega)

theorem bitStep_reading {p : PortUnit} {r : Reading} (hr : p.reading = some r) :
    ∃ r', p.bitStep.reading = some r' ∧ r'.bits = r.bits + 1 ∧ r'.command = r.command := by
  rw [bitStep_of_reading hr]
  exact shiftEntry_reading 1 r p

theorem bitSteps_reading {p : PortUnit} {r : Reading} (n : Nat) (hr : p.reading = some r) :
    ∃ r', (PortUnit.bitStep^[n] p).reading = some r' ∧ r'.bits = r.bits + n ∧ r'.command = r.command := by
  induction n with
  | zero => exact ⟨r, hr, rfl, rfl⟩
  | succ n ih =>
    obtain ⟨r', hr', hbits, hcommand⟩ := ih
    obtain ⟨r'', hr'', hbits', hcommand'⟩ := bitStep_reading hr'
    rw [Function.iterate_succ_apply']
    exact ⟨r'', hr'', by omega, hcommand'.trans hcommand⟩

theorem clock_of_latches {n : Nat} {r : Reading} {p : PortUnit} (hr : p.reading = some r) (hc : r.command = .latches) :
    p.clock n = p.shiftLatches n r := by
  unfold PortUnit.clock
  rw [hr]
  dsimp only
  rw [hc]

theorem shiftLatches_reading (n : Nat) (r : Reading) (p : PortUnit) :
    (p.shiftLatches n r).reading = some { r with bits := r.bits + n } := by
  unfold PortUnit.shiftLatches
  split <;> rfl

/-- Clocking leaves the read open, so many bits further. -/
theorem clock_reading {p : PortUnit} {r : Reading} (n : Nat) (hr : p.reading = some r) :
    ∃ r', (p.clock n).reading = some r' ∧ r'.bits = r.bits + n ∧ r'.command = r.command := by
  by_cases hj : r.command = .journal
  · rw [clock_of_journal hr hj]
    exact bitSteps_reading n hr
  · by_cases hl : r.command = .latches
    · rw [clock_of_latches hr hl]
      exact ⟨_, shiftLatches_reading n r p, rfl, rfl⟩
    · rw [clock_of_fixed hr hl hj]
      exact ⟨_, rfl, rfl, rfl⟩

/-- Clocked in two pieces READ LATCHES does what it does in one (R189). -/
theorem shiftLatches_add (a b : Nat) (r : Reading) (p : PortUnit) :
    p.shiftLatches (a + b) r = (p.shiftLatches a r).shiftLatches b { r with bits := r.bits + a } := by
  unfold PortUnit.shiftLatches PortUnit.shift
  dsimp only
  split_ifs
  any_goals omega
  all_goals simp [Nat.add_assoc]

theorem clock_add {p : PortUnit} {r : Reading} (a b : Nat) (hr : p.reading = some r)
    (hc : r.command = .latches ∨ r.command = .journal) : p.clock (a + b) = (p.clock a).clock b := by
  obtain ⟨r', hr', -, hc'⟩ := clock_reading a hr
  rcases hc with hc | hc
  · have hr'' := shiftLatches_reading a r p
    rw [clock_of_latches hr hc, clock_of_latches hr hc, clock_of_latches hr'' hc, shiftLatches_add]
  · rw [clock_of_journal hr' (hc'.trans hc), clock_of_journal hr hc, clock_of_journal hr hc, ← Function.iterate_add_apply,
      Nat.add_comm]

/-- Clocked in two pieces a read does what it does in one (log entry 2). -/
theorem read_add {c : PortRead} {a : Nat} (b : Nat) (released : Bool) {s t : State}
    (hc : c = .latches ∨ c = .journal) (h : (.next (s.read c a false) : Result) = .next t) :
    s.read c (a + b) released = t.read c b released := by
  obtain ⟨r, hr, hcommand⟩ := readOpened_reading c s
  obtain ⟨r', hr', -, hcommand'⟩ := clock_reading a hr
  obtain rfl : (s.readOpened c).clockRead a = t := Host.Outcome.next.inj h
  rw [read_eq_clocked, read_eq_clocked, readOpened_of_open (s := (s.readOpened c).clockRead a) hr' (hcommand'.trans hcommand)]
  have hadd : (s.readOpened c).clockRead (a + b) = ((s.readOpened c).clockRead a).clockRead b := by
    unfold State.clockRead
    rw [clock_add a b hr (by rwa [hcommand])]
  unfold State.clocked
  rw [hadd]

end Sys2Proof.Machine

namespace Sys2Proof.Machine

/-! ### READ LATCHES (O6) -/

theorem latchCleared_eq (l m n : Bool) : (l && !(m && !n)) = if m = true ∧ n = false then false else l := by
  cases m <;> cases n <;> simp

/-- What the latch image's bits clear, beside the image going out (R189). -/
theorem shiftLatches_eq (n : Nat) (r : Reading) (p : PortUnit) : p.shiftLatches n r = { p.shift n r with
    latches := if r.bits < 24 ∧ 24 ≤ r.bits + n then
        Vector.ofFn fun k => if r.snapshot[k] = true ∧ p.since[k] = false then false else p.latches[k]
      else p.latches } := by
  unfold PortUnit.shiftLatches
  simp only [latchCleared_eq]
  split <;> rfl

/-- READ LATCHES open: its image goes out, and the last bit of it clears what it showed (R189). -/
theorem readLatches_of_open {n : Nat} {released : Bool} {s : State} {r : Reading} (hr : s.port.reading = some r)
    (hc : r.command = .latches) : s.read .latches n released = { imageShifted r n released s with
      port.latches := if r.bits < 24 ∧ 24 ≤ r.bits + n then
          Vector.ofFn fun k => if r.snapshot[k] = true ∧ s.port.since[k] = false then false else s.port.latches[k]
        else s.port.latches } := by
  have hclock := clock_of_latches (n := n) hr hc
  have hreading : (s.clockRead n).port.reading = some { r with bits := r.bits + n } := by
    unfold State.clockRead
    rw [hclock]
    exact shiftLatches_reading n r s.port
  rw [read_eq_clocked, readOpened_of_open hr hc]
  unfold State.clocked imageShifted
  cases released with
  | false =>
    unfold State.clockRead
    rw [hclock, shiftLatches_eq]
    rfl
  | true =>
    rw [if_pos rfl, releasePort_of_reading hreading, if_pos rfl]
    unfold State.clockRead
    rw [hclock, shiftLatches_eq]
    rfl

/-- Settles O6: the snapshot at its beginning, the image with what its last bit clears, and its pieces. -/
theorem readLatchesClearsWhatItShowed : Obligations.ReadLatchesClearsWhatItShowed := by
  refine ⟨fun s hfree => ?_, fun n released s r hr hc => congrArg _ (readLatches_of_open hr hc),
    fun a b released s t h => congrArg _ (read_add b released (.inl rfl) h)⟩
  show Host.Outcome.next _ = _
  rw [read_eq_clocked, readOpened_of_begin (by rw [hfree.2]; nofun), beginRead_of_free _ hfree]
  rfl

/-! ### READ JOURNAL (O7) -/

/-- The image that stands for the head of a journal: the empty image where there is none (R191). -/
def headImage : List JournalEntry → List Byte
  | [] => emptyImage 8
  | e :: _ => journalImage e

theorem copyHead_eq (j : List JournalEntry) (r : Reading) :
    r.copyHead j = { r with image := headImage j, copied := !j.isEmpty } := by
  cases j <;> rfl

theorem journalImage_length (e : JournalEntry) : (journalImage e).length = 8 := by
  unfold journalImage detailFields
  cases e.detail <;> rfl

theorem headImage_length (j : List JournalEntry) : (headImage j).length = 8 := by
  cases j with
  | nil => rfl
  | cons e rest => exact journalImage_length e

/-- The bits of a whole journal, oldest entry first. -/
def journalBits (j : List JournalEntry) : List Bool := (j.flatMap journalImage).flatMap byteBits

theorem journalBits_cons (e : JournalEntry) (rest : List JournalEntry) :
    journalBits (e :: rest) = imageBits (journalImage e) ++ journalBits rest := by
  unfold journalBits imageBits
  rw [List.flatMap_cons, List.flatMap_append]

/-- Bit `n` of a journal is bit `n % 64` of the entry that then stands at its head. -/
theorem journalBits_getD (j : List JournalEntry) (n : Nat) :
    (journalBits j).getD n false = (imageBits (headImage (j.drop (n / 64)))).getD (n % 64) false := by
  induction j generalizing n with
  | nil =>
    have hzero : imageBits (emptyImage 8) = List.replicate 64 false := by decide
    rw [List.drop_nil]
    show false = (imageBits (emptyImage 8)).getD _ false
    rw [hzero, List.getD_eq_getElem _ _ (by simpa using Nat.mod_lt n (by decide)), List.getElem_replicate]
  | cons e rest ih =>
    have hlength : (imageBits (journalImage e)).length = 64 := by rw [imageBits_length, journalImage_length]
    rw [journalBits_cons]
    by_cases hn : n < 64
    · rw [List.getD_append _ _ _ _ (by omega), Nat.div_eq_of_lt hn, Nat.mod_eq_of_lt hn]
      rfl
    · obtain ⟨m, rfl⟩ := Nat.exists_eq_add_of_le (Nat.not_lt.mp hn)
      rw [List.getD_append_right _ _ _ _ (by omega), hlength, Nat.add_sub_cancel_left, ih, Nat.add_mod_left,
        show (64 + m) / 64 = m / 64 + 1 by omega]
      rfl

/-- The first `n` bits of `l`, and zeros beyond its end. -/
def shown (l : List Bool) (n : Nat) : List Bool := (l ++ List.replicate n false).take n

theorem shown_eq_map (l : List Bool) (n : Nat) : shown l n = (List.range n).map fun i => l.getD i false := by
  refine List.ext_getElem (by simp [shown]) fun i hi _ => ?_
  have hin : i < n := by simpa [shown] using hi
  simp only [shown, List.getElem_take, List.getElem_map, List.getElem_range]
  by_cases hl : i < l.length
  · rw [List.getElem_append_left hl, List.getD_eq_getElem _ _ hl]
  · rw [List.getElem_append_right (by omega), List.getElem_replicate, List.getD_eq_default _ _ (by omega)]

theorem shown_succ (l : List Bool) (n : Nat) : shown l (n + 1) = shown l n ++ [l.getD n false] := by
  simp [shown_eq_map, List.range_succ]

/-- The head copied is removed; an empty journal has none. -/
theorem dropHead_of_copied (l : List JournalEntry) : (if (!l.isEmpty) = true then l.drop 1 else l) = l.drop 1 := by
  cases l <;> rfl

/-- A journal read from its beginning after `n` bits: what it has shown, what it has removed, and the copy of the
head in the middle of an entry. -/
theorem bitSteps_of_begun {p : PortUnit} {v : Vector Bool 17} (n : Nat)
    (hr : p.reading = some ⟨.journal, [], 0, none, v, false⟩) (hd : p.dataOut = []) :
    ∃ r, PortUnit.bitStep^[n] p = { p with
        dataOut := shown (journalBits p.journal) n, journal := p.journal.drop (n / 64), reading := some r } ∧
      r.bits = n ∧ r.refusal = none ∧ (n % 64 ≠ 0 →
        r.image = headImage (p.journal.drop (n / 64)) ∧ r.copied = !(p.journal.drop (n / 64)).isEmpty) := by
  induction n with
  | zero =>
    refine ⟨⟨.journal, [], 0, none, v, false⟩, ?_, rfl, rfl, fun h => absurd rfl h⟩
    show p = _
    cases p
    simp_all [shown]
  | succ n ih =>
    obtain ⟨r, hp, hbits, hrefusal, hopen⟩ := ih
    have hhead : (r.entryCopied (p.journal.drop (n / 64))).image = headImage (p.journal.drop (n / 64)) ∧
        (r.entryCopied (p.journal.drop (n / 64))).copied = !(p.journal.drop (n / 64)).isEmpty ∧
        (r.entryCopied (p.journal.drop (n / 64))).refusal = none := by
      unfold Reading.entryCopied
      rw [hbits]
      split
      · rw [copyHead_eq]
        exact ⟨rfl, rfl, hrefusal⟩
      next h => exact ⟨(hopen h).1, (hopen h).2, hrefusal⟩
    obtain ⟨himage, hcopied, hnone⟩ := hhead
    have hbit : ((imageBits (headImage (p.journal.drop (n / 64)))).drop (n % 64)).take 1
        = [(journalBits p.journal).getD n false] := by
      have hlt : n % 64 < (imageBits (headImage (p.journal.drop (n / 64)))).length := by
        rw [imageBits_length, headImage_length]
        exact Nat.mod_lt n (by decide)
      rw [journalBits_getD, List.getD_eq_getElem _ _ hlt, List.take_one_drop_eq_of_lt_length hlt]
      rfl
    rw [Function.iterate_succ_apply', hp, bitStep_of_reading rfl]
    by_cases hend : n % 64 + 1 = 64
    · have hdiv : (n + 1) / 64 = n / 64 + 1 := by omega
      refine ⟨{ r.entryCopied (p.journal.drop (n / 64)) with bits := r.bits + 1, copied := false }, ?_,
        congrArg (· + 1) hbits, hnone, fun h => absurd (by omega) h⟩
      rw [shiftEntry_of_eq (n := 1) (by rw [hbits]; exact hend)]
      dsimp only
      rw [himage, hcopied, dropHead_of_copied, List.drop_drop, hbits, hbit, shown_succ, hdiv]
    · have hdiv : (n + 1) / 64 = n / 64 := by omega
      refine ⟨{ r.entryCopied (p.journal.drop (n / 64)) with bits := r.bits + 1 }, ?_,
        congrArg (· + 1) hbits, hnone, fun _ => ⟨by rw [hdiv]; exact himage, by rw [hdiv]; exact hcopied⟩⟩
      rw [shiftEntry_of_lt (n := 1) (by rw [hbits]; omega)]
      dsimp only
      rw [himage, hbits, hbit, shown_succ, hdiv]

/-- One piece of READ JOURNAL within an entry (R191). -/
theorem readJournal_within {n : Nat} {s : State} {r : Reading} (hr : s.port.reading = some r) (hc : r.command = .journal)
    (hn : 0 < n) (h : r.bits % 64 + n ≤ 64) : s.read .journal n false = { s with port := s.port.shiftEntry n r } := by
  rw [read_eq_clocked, readOpened_of_open hr hc]
  show s.clockRead n = _
  unfold State.clockRead
  rw [clock_of_journal hr hc, shiftEntry_eq_iterate hr hn h]

/-- The whole of a journal read, from its beginning to the release of select. -/
theorem readJournal_whole (n : Nat) {s : State} (hfree : portFree s) : s.read .journal n true = { s with
    port.dataOut := shown (journalBits s.port.journal) n
    port.journal := s.port.journal.drop (n / 64)
    port.result := if n % 8 = 0 then s.port.result else .frame } := by
  obtain ⟨r, hp, hbits, hrefusal, -⟩ := bitSteps_of_begun (p := (s.beginRead .journal).port) (v := s.port.latches) n
    (by rw [beginRead_of_free _ hfree]; rfl) rfl
  have hclock : (s.beginRead .journal).clockRead n = { s.beginRead .journal with
      port := PortUnit.bitStep^[n] (s.beginRead .journal).port } := by
    unfold State.clockRead
    rw [clock_of_journal (r := ⟨.journal, [], 0, none, s.port.latches, false⟩) (by rw [beginRead_of_free _ hfree]; rfl) rfl]
  rw [read_eq_clocked, readOpened_of_begin (by rw [hfree.2]; nofun)]
  unfold State.clocked
  rw [if_pos rfl, hclock, hp, releasePort_of_reading (r := r) rfl]
  unfold readReleased
  rw [hbits, hrefusal, beginRead_of_free _ hfree]
  obtain ⟨hw, hread⟩ := hfree
  cases hp' : s.port
  simp_all

/-- Settles O7: bit by bit the head is copied, goes out and is removed. -/
theorem readJournalRemovesWhatWentOut : Obligations.ReadJournalRemovesWhatWentOut := by
  refine ⟨fun s hfree => ?_, fun n s r hr hc hn h => ?_, fun s r hr hc => ?_,
    fun a b released s t h => congrArg _ (read_add b released (.inr rfl) h),
    fun n s hfree => ⟨congrArg _ (readJournal_whole n hfree), fun e _ => journalImage_length e⟩⟩
  · show Host.Outcome.next _ = _
    rw [read_eq_clocked, readOpened_of_begin (by rw [hfree.2]; nofun), beginRead_of_free _ hfree]
    rfl
  · show Host.Outcome.next _ = _
    rw [readJournal_within hr hc hn h]
    have hcopy : r.entryCopied s.port.journal = { r with
        image := if r.bits % 64 ≠ 0 then r.image else headImage s.port.journal
        copied := if r.bits % 64 ≠ 0 then r.copied else !s.port.journal.isEmpty } := by
      unfold Reading.entryCopied
      rw [copyHead_eq]
      by_cases h0 : r.bits % 64 = 0
      · simp [h0]
      · simp [h0]
    have hshift : s.port.shiftEntry n r = { s.port with
        dataOut := s.port.dataOut ++ ((imageBits (r.entryCopied s.port.journal).image).drop (r.bits % 64)).take n
        journal := if r.bits % 64 + n = 64 ∧ (r.entryCopied s.port.journal).copied = true then s.port.journal.tail
          else s.port.journal
        reading := some { r.entryCopied s.port.journal with
          bits := r.bits + n
          copied := (r.entryCopied s.port.journal).copied && decide (r.bits % 64 + n < 64) } } := by
      by_cases hend : r.bits % 64 + n = 64
      · rw [shiftEntry_of_eq hend]
        simp [hend]
      · have hlt : r.bits % 64 + n < 64 := by omega
        rw [shiftEntry_of_lt hlt]
        simp [hend, hlt]
    rw [hshift, hcopy]
    cases s.port.journal <;> rfl
  · show Host.Outcome.next _ = _
    rw [read_eq_clocked, readOpened_of_open hr hc]
    show Host.Outcome.next (s.clockRead 0).releasePort = _
    have hzero : s.clockRead 0 = s := by
      unfold State.clockRead
      rw [clock_of_journal hr hc]
      rfl
    rw [hzero, releasePort_of_reading hr]

end Sys2Proof.Machine

namespace Sys2Proof.Machine

/-! ### WATCH (O8) -/

theorem watchSelector_isNone_iff (b : Byte) : (watchSelector b).isNone = true ↔ 2 < b.toNat := by
  unfold watchSelector
  split_ifs with h0 h1 h2
  · subst h0; decide
  · subst h1; decide
  · subst h2; decide
  · have h0' : b.toNat ≠ 0 := fun h => h0 (BitVec.eq_of_toNat_eq h)
    have h1' : b.toNat ≠ 1 := fun h => h1 (BitVec.eq_of_toNat_eq h)
    have h2' : b.toNat ≠ 2 := fun h => h2 (BitVec.eq_of_toNat_eq h)
    simp only [Option.isNone_none, true_iff]
    omega

/-- Select released with a WATCH open, and no read (R183). -/
theorem releasePort_of_watch {s : State} {b : Byte} (hw : s.port.watch = some b) (hr : s.port.reading = none) :
    s.releasePort = { s with port.watch := none, port.reading := none
                             port.result := if 2 < b.toNat then .refusedRange else s.port.result } := by
  have hnone : s.port.resultAtRelease = if 2 < b.toNat then .refusedRange else s.port.result := by
    unfold PortUnit.resultAtRelease
    rw [hr, hw]
    simp only [Option.any_some, watchSelector_isNone_iff]
  unfold State.releasePort
  rw [hnone]

theorem watch_of_free {b : Byte} {s : State} (hfree : portFree s) :
    exec (.watch b false) s = .next { s with port.watch := some b, port.dataOut := [] } ∧
    exec (.watch b true) s = .next { s with
      port.dataOut := [], port.result := if 2 < b.toNat then .refusedRange else s.port.result } := by
  have hopened : (if s.port.watch = some b then s
      else { s.openPort with port := { s.openPort.port with watch := some b } })
      = { s with port.watch := some b, port.dataOut := [] } := by
    rw [if_neg (by rw [hfree.1]; nofun), openPort_of_free hfree]
  obtain ⟨hw, hr⟩ := hfree
  refine ⟨congrArg Host.Outcome.next hopened, congrArg Host.Outcome.next ?_⟩
  refine (congrArg State.releasePort hopened).trans ?_
  refine (releasePort_of_watch (b := b) (s := { s with port.watch := some b, port.dataOut := [] }) rfl hr).trans ?_
  dsimp only
  rw [← hw, ← hr]

theorem watch_of_open {b : Byte} {s : State} (hw : s.port.watch = some b) (hr : s.port.reading = none) :
    exec (.watch b false) s = .next s ∧
    exec (.watch b true) s = .next { s with
      port.watch := none, port.result := if 2 < b.toNat then .refusedRange else s.port.result } := by
  have hopened : (if s.port.watch = some b then s
      else { s.openPort with port := { s.openPort.port with watch := some b } }) = s := if_pos hw
  refine ⟨congrArg Host.Outcome.next hopened, congrArg Host.Outcome.next ?_⟩
  refine (congrArg State.releasePort hopened).trans ?_
  rw [releasePort_of_watch hw hr, ← hr]

/-- In a read the data output carries the bit that goes out next (R179, R191). -/
theorem dataLevel_of_reading {t : State} {r : Reading} (hr : t.port.reading = some r) : readLevel r t := by
  have hlevel : t.dataLevel = t.port.nextLevel r := by
    unfold State.dataLevel
    rw [hr]
  have hempty : ((imageBits (emptyImage 8))[0]?).getD false = false := by decide
  refine ⟨fun hc => ?_, fun hc => ⟨fun hopen => ?_, fun hbegin => ⟨fun e rest hj => ?_, fun hj => ?_⟩⟩⟩
  all_goals rw [hlevel]
  all_goals unfold PortUnit.nextLevel
  · split
    next h => exact absurd h hc
    all_goals rfl
  · rw [hc]
    dsimp only
    rw [if_neg hopen]
    rfl
  · rw [hc]
    dsimp only
    rw [if_pos hbegin, hj, hbegin]
    rfl
  · rw [hc]
    dsimp only
    rw [if_pos hbegin, hj, hbegin]
    exact hempty

/-- Settles O8: WATCH opened, held and released, and the level of the data output in every state. -/
theorem watchDrivesItsCondition : Obligations.WatchDrivesItsCondition := by
  refine ⟨fun b s => ⟨watch_of_free, watch_of_open⟩,
    fun t => ⟨fun hr hw => ?_, fun r => dataLevel_of_reading, fun b hr hw => ?_⟩⟩
  · unfold State.dataLevel
    rw [hr, hw]
    rfl
  · have hlevel : t.dataLevel = (watchSelector b).any t.watched := by
      unfold State.dataLevel
      rw [hr, hw]
      rfl
    refine ⟨fun hb => ?_, fun hb => ?_, fun hb => ?_, fun hb => ?_⟩
    · rw [hlevel, hb]
      show t.atWork?.isSome = _
      rw [Bool.eq_iff_iff, atWork?_isSome_iff]
      simp
    · rw [hlevel, hb]
      show t.lineRunning = _
      rw [Bool.eq_iff_iff, lineRunning_iff, decide_eq_true_iff]
    · rw [hlevel, hb]
      show (t.role == some .press && t.ownHolds) = _
      rw [beq_eq_decide]
      rfl
    · rw [hlevel, Option.isNone_iff_eq_none.mp ((watchSelector_isNone_iff b).mpr hb)]
      rfl

/-! ### Broken transactions (O9) -/

/-- What no clocked bit changes in the port. -/
def PortUnit.sameRest (p q : PortUnit) : Prop :=
  q = { p with dataOut := q.dataOut, latches := q.latches, journal := q.journal, reading := q.reading }

theorem clock_sameRest (n : Nat) (p : PortUnit) : p.sameRest (p.clock n) := by
  cases hr : p.reading with
  | none =>
    unfold PortUnit.clock
    rw [hr]
    rfl
  | some r =>
    by_cases hl : r.command = .latches
    · rw [clock_of_latches hr hl, shiftLatches_eq]
      rfl
    · by_cases hj : r.command = .journal
      · rw [clock_of_journal hr hj]
        clear hr
        induction n with
        | zero => rfl
        | succ n ih =>
          rw [Function.iterate_succ_apply']
          unfold PortUnit.sameRest at ih ⊢
          rw [ih]
          unfold PortUnit.bitStep
          split <;> rfl
      · rw [clock_of_fixed hr hl hj]
        rfl

/-- READ LATCHES from its beginning clears every latch it showed, once its whole image has gone out (R189). -/
theorem clock_latches_of_begun {p : PortUnit} {r : Reading} (n : Nat) (hr : p.reading = some r)
    (hc : r.command = .latches) (hzero : r.bits = 0) (hsnap : r.snapshot = p.latches)
    (hsince : p.since = Vector.replicate 17 false) :
    (p.clock n).latches = if 24 ≤ n then Vector.replicate 17 false else p.latches := by
  rw [clock_of_latches hr hc, shiftLatches_eq, hzero, hsnap, hsince]
  have hcleared : (Vector.ofFn fun k : Fin 17 =>
      if p.latches[k] = true ∧ (Vector.replicate 17 false)[k] = false then false else p.latches[k])
      = Vector.replicate 17 false := by
    ext i hi
    simp
  simp only [Nat.zero_add, Nat.zero_lt_succ, true_and, hcleared]

/-- A read of another kind clears no latch and takes no entry. -/
theorem clock_latches {p : PortUnit} (n : Nat) (h : ∀ r ∈ p.reading, r.command ≠ .latches) :
    (p.clock n).latches = p.latches := by
  cases hr : p.reading with
  | none =>
    unfold PortUnit.clock
    rw [hr]
  | some r =>
    have hl := h r hr
    by_cases hj : r.command = .journal
    · rw [clock_of_journal hr hj]
      clear hr h
      induction n with
      | zero => rfl
      | succ n ih =>
        rw [Function.iterate_succ_apply', ← ih]
        unfold PortUnit.bitStep
        split <;> rfl
    · rw [clock_of_fixed hr hl hj]
      rfl

theorem clock_journal {p : PortUnit} (n : Nat) (h : ∀ r ∈ p.reading, r.command ≠ .journal) :
    (p.clock n).journal = p.journal := by
  cases hr : p.reading with
  | none =>
    unfold PortUnit.clock
    rw [hr]
  | some r =>
    by_cases hl : r.command = .latches
    · rw [clock_of_latches hr hl, shiftLatches_eq]
      rfl
    · rw [clock_of_fixed hr hl (h r hr)]
      rfl

/-- The command byte of READ LATCHES and of READ JOURNAL names that read, and no other byte does (12.2). -/
theorem namedRead_head {bytes : List Byte} {c : PortRead} {k : Nat} (h : namedRead bytes = some (c, k)) :
    (bytes.head? ≠ some 0x03 → c ≠ .latches) ∧ (bytes.head? ≠ some 0x05 → c ≠ .journal) := by
  unfold namedRead at h
  split at h
  · cases h
  next code rest =>
    by_cases h1 : code = 0x01
    · rw [if_pos h1] at h
      cases h
      exact ⟨fun _ => nofun, fun _ => nofun⟩
    by_cases h3 : code = 0x03
    · rw [if_neg h1, if_pos h3] at h
      cases h
      exact ⟨fun hne => absurd (congrArg some h3) hne, fun _ => nofun⟩
    by_cases h5 : code = 0x05
    · rw [if_neg h1, if_neg h3, if_pos h5] at h
      cases h
      exact ⟨fun _ => nofun, fun hne => absurd (congrArg some h5) hne⟩
    rw [if_neg h1, if_neg h3, if_neg h5] at h
    have hother : c ≠ .latches ∧ c ≠ .journal := by
      split at h
      · cases h
      all_goals split_ifs at h
      all_goals cases h
      all_goals exact ⟨nofun, nofun⟩
    exact ⟨fun _ => hother.1, fun _ => hother.2⟩

/-- What neither a read's beginning nor its bits change in the port. -/
def PortUnit.sameSettings (p q : PortUnit) : Prop :=
  q.enables = p.enables ∧ q.groups = p.groups ∧ q.master = p.master ∧ q.stamp = p.stamp ∧ q.retired = p.retired ∧
    q.passed = p.passed ∧ q.diverted = p.diverted

theorem clock_sameSettings (n : Nat) (p : PortUnit) : p.sameSettings (p.clock n) := by
  have h := clock_sameRest n p
  unfold PortUnit.sameRest at h
  unfold PortUnit.sameSettings
  rw [h]
  exact ⟨rfl, rfl, rfl, rfl, rfl, rfl, rfl⟩

theorem clock_since (n : Nat) (p : PortUnit) : (p.clock n).since = p.since := by
  have h := clock_sameRest n p
  unfold PortUnit.sameRest at h
  rw [h]

theorem brokenRead_sameSettings (bytes : List Byte) (n : Nat) (s : State) :
    s.port.sameSettings (s.brokenRead bytes n).port := by
  unfold State.brokenRead
  split
  · exact clock_sameSettings _ (s.beginRead _).port
  · exact ⟨rfl, rfl, rfl, rfl, rfl, rfl, rfl⟩

/-- A broken transaction but READ LATCHES clears no latch (log entry 16). -/
theorem brokenRead_latches {bytes : List Byte} (n : Nat) (s : State) (h : bytes.head? ≠ some 0x03) :
    (s.brokenRead bytes n).port.latches = s.port.latches ∧ (s.brokenRead bytes n).port.since = s.port.since := by
  unfold State.brokenRead
  split
  next c k hc =>
    have hl : c ≠ .latches := (namedRead_head hc).1 h
    refine ⟨clock_latches (p := (s.beginRead c).port) _ fun r hr => ?_,
      (clock_since _ (s.beginRead c).port).trans (if_neg hl)⟩
    cases hr
    exact hl
  · exact ⟨rfl, rfl⟩

/-- A broken transaction but READ JOURNAL takes no entry (log entry 16). -/
theorem brokenRead_journal {bytes : List Byte} (n : Nat) (s : State) (h : bytes.head? ≠ some 0x05) :
    (s.brokenRead bytes n).port.journal = s.port.journal := by
  unfold State.brokenRead
  split
  next c k hc =>
    refine clock_journal (p := (s.beginRead c).port) _ fun r hr => ?_
    cases hr
    exact (namedRead_head hc).2 h
  · rfl

theorem brokenRead_of_latches (rest : List Byte) (n : Nat) (s : State) :
    (s.brokenRead (0x03 :: rest) n).port.latches =
      if 24 ≤ 8 * rest.length + n then Vector.replicate 17 false else s.port.latches :=
  clock_latches_of_begun (p := (s.beginRead .latches).port) _ rfl rfl rfl rfl rfl

theorem brokenRead_of_journal (rest : List Byte) (n : Nat) (s : State) :
    (s.brokenRead (0x05 :: rest) n).port.journal = s.port.journal.drop ((8 * rest.length + n) / 64) := by
  obtain ⟨r, hp, -⟩ := bitSteps_of_begun (p := (s.beginRead .journal).port) (8 * rest.length + n) rfl rfl
  have hclock := clock_of_journal (n := 8 * rest.length + n) (p := (s.beginRead .journal).port) rfl rfl
  exact congrArg PortUnit.journal (hclock.trans hp)

/-- Settles O9: a broken transaction has read what it read, and gives FRAME. -/
theorem brokenTransactionGivesFrame : Obligations.BrokenTransactionGivesFrame := by
  intro bytes n s
  obtain ⟨he, hg, hm, hs, hretired, hpassed, hdiverted⟩ := brokenRead_sameSettings bytes n s
  refine ⟨((s.brokenRead bytes n).releasePort.answer .frame).port, congrArg Host.Outcome.next ?_, rfl, rfl, rfl,
    he, hg, hm, hs, hretired, hpassed, hdiverted, brokenRead_latches n s, ?_, brokenRead_journal n s, ?_⟩
  · rw [brokenRead_spec]
    rfl
  · rintro rest rfl
    exact brokenRead_of_latches rest n s
  · rintro rest rfl
    exact brokenRead_of_journal rest n s

end Sys2Proof.Machine

namespace Sys2Proof.Machine

/-! ### Bits and bytes -/

theorem word2_bytes2 (w : W16) : word2 (w.extractLsb' 8 8) (w.extractLsb' 0 8) = w := by
  unfold word2
  rw [BitVec.extractLsb'_append_extractLsb'_eq_extractLsb' (by decide)]
  simp

theorem word3_bytes3 (w : BitVec 24) : word3 (w.extractLsb' 16 8) (w.extractLsb' 8 8) (w.extractLsb' 0 8) = w := by
  unfold word3
  rw [BitVec.extractLsb'_append_extractLsb'_eq_extractLsb' (by decide),
    BitVec.extractLsb'_append_extractLsb'_eq_extractLsb' (by decide)]
  simp

theorem nat1_byteBits (b : Byte) : nat1 (bitsNat (byteBits b)) = b := by
  revert b
  decide

theorem byteBits_length (b : Byte) : (byteBits b).length = 8 := rfl

/-- The bytes of bits are read back, whatever follows them. -/
theorem bytesOf_flatMap (l : List Byte) (rest : List Bool) :
    bytesOf l.length (l.flatMap byteBits ++ rest) = l := by
  induction l with
  | nil => rfl
  | cons b bs ih =>
    unfold bytesOf at ih ⊢
    rw [List.length_cons, List.range_succ_eq_map, List.map_cons, List.map_map, List.flatMap_cons, List.append_assoc]
    refine congrArg₂ List.cons (nat1_byteBits b) ((List.map_congr_left fun i _ => ?_).trans ih)
    have hdrop : (byteBits b ++ (bs.flatMap byteBits ++ rest)).drop (8 * (i + 1))
        = (bs.flatMap byteBits ++ rest).drop (8 * i) := by
      rw [Nat.mul_add, Nat.add_comm, ← List.drop_drop, List.drop_left' (byteBits_length b)]
    exact congrArg (fun l : List Bool => nat1 (bitsNat (l.take 8))) hdrop

theorem flatMap_byteBits_length (l : List Byte) : (l.flatMap byteBits).length = 8 * l.length := imageBits_length l

/-! ### The port serves one transaction (O10) -/

section
variable (s : State)

theorem selectReleased_eq : selectReleased s = s.releasePort := by
  unfold selectReleased State.releasePort PortUnit.resultAtRelease
  cases hr : s.port.reading with
  | some r => simp only [ne_eq, ite_not]
  | none =>
    cases hw : s.port.watch with
    | none => rfl
    | some b => simp only [Option.any_some, watchSelector_isNone_iff]

/-- The port opened after a release is the port opened. -/
theorem openPort_selectReleased : (selectReleased s).openPort = s.openPort := by
  rw [selectReleased_eq]
  rfl

theorem beginRead_selectReleased (c : PortRead) : (selectReleased s).beginRead c = s.beginRead c := by
  unfold State.beginRead
  rw [openPort_selectReleased]

theorem read_selectReleased {c : PortRead} (n : Nat) (released : Bool) (h : ¬ ∃ r ∈ s.port.reading, r.command = c) :
    s.read c n released = (selectReleased s).read c n released := by
  have hnone : ∀ r ∈ (selectReleased s).port.reading, r.command ≠ c := fun r hr => by cases hr
  rw [read_eq_clocked, read_eq_clocked, readOpened_of_begin fun r hr hc => h ⟨r, hr, hc⟩, readOpened_of_begin hnone,
    beginRead_selectReleased]

end

/-- A command that does not go on with the open transaction is taken as after its release (log entry 2). -/
theorem exec_selectReleased {c : Instr} {s : State} (hc : isTransaction c = true) (h : ¬ goesOn s c) :
    exec c s = exec c (selectReleased s) := by
  have hopen := openPort_selectReleased s
  cases c with
  | status | readLatches | readJournal | readRecord | readMagazine =>
    exact congrArg Host.Outcome.next (read_selectReleased s _ _ h)
  | watch b released =>
    show execWatch b s released = execWatch b (selectReleased s) released
    unfold execWatch
    have hnone : (selectReleased s).port.watch ≠ some b := nofun
    rw [if_neg (show ¬ s.port.watch = some b from h), if_neg hnone, hopen]
  | writeEnables l g =>
    show execWriteEnables l g s = execWriteEnables l g (selectReleased s)
    unfold execWriteEnables
    rw [hopen]
  | writeParameter id v =>
    show execWriteParameter id v s = execWriteParameter id v (selectReleased s)
    unfold execWriteParameter
    rw [hopen]
    rfl
  | writeFormat i e =>
    show execWriteFormat i e s = execWriteFormat i e (selectReleased s)
    unfold execWriteFormat
    rw [hopen]
    rfl
  | join =>
    show execJoin s = execJoin (selectReleased s)
    unfold execJoin
    rw [hopen]
    rfl
  | mark k =>
    show execMark k s = execMark k (selectReleased s)
    unfold execMark
    rw [hopen]
    rfl
  | purge tag =>
    show execPurge tag s = execPurge tag (selectReleased s)
    unfold execPurge
    rw [hopen]
    rfl
  | magazineClear =>
    show execMagazineClear s = execMagazineClear (selectReleased s)
    unfold execMagazineClear
    rw [hopen]
    rfl
  | stop =>
    show execStop s = execStop (selectReleased s)
    unfold execStop
    rw [hopen]
    rfl
  | go =>
    show execGo s = execGo (selectReleased s)
    unfold execGo
    rw [hopen]
    rfl
  | drain =>
    show execDrain s = execDrain (selectReleased s)
    unfold execDrain
    rw [hopen]
    rfl
  | reset straps => rfl
  | transactionFrame l n =>
    show execTransactionFrame l n s = execTransactionFrame l n (selectReleased s)
    unfold execTransactionFrame State.brokenRead
    simp only [hopen, beginRead_selectReleased]
  | _ => cases hc

/-! #### The command that the bytes of a transaction spell -/

section
variable (straps : Straps)

theorem transactionCommand_of_framed {code : Byte} {rest : List Byte} (h : bytesFramed (code :: rest) = true) :
    transactionCommand straps (code :: rest) 0 = (wholeRead code rest <|> wholeWrite straps code rest) := by
  unfold transactionCommand transactionBroken
  rw [h]
  rfl

theorem transactionCommand_of_broken {bytes : List Byte} {n : Nat} (h : transactionBroken bytes n = true) :
    transactionCommand straps bytes n = some (.transactionFrame bytes n) := by
  unfold transactionCommand
  rw [if_pos h]

end

/-- The framing that the command of a byte asks for (12.2). -/
theorem portCommand_of_framed {code : Byte} {rest : List Byte} (h : bytesFramed (code :: rest) = true) :
    ∃ c ∈ portCommands, c.code = code ∧ c.arguments ≤ rest.length ∧
      (c.isRead = true ∨ rest.length = c.arguments) := by
  unfold bytesFramed at h
  dsimp only at h
  split at h
  · cases h
  next c hc =>
    have hcode := List.find?_some hc
    simp only [Bool.and_eq_true, Bool.or_eq_true, decide_eq_true_eq, beq_iff_eq] at h hcode
    exact ⟨c, List.mem_of_find?_eq_some hc, hcode, h.1, h.2⟩

theorem eq_cons_of_length {l : List Byte} {n : Nat} (h : l.length = n + 1) : ∃ a t, l = a :: t ∧ t.length = n := by
  cases l with
  | nil => cases h
  | cons a t => exact ⟨a, t, rfl, Nat.succ.inj h⟩

theorem eq_cons_of_le_length {l : List Byte} {n : Nat} (h : n + 1 ≤ l.length) : ∃ a t, l = a :: t ∧ n ≤ t.length := by
  obtain ⟨a, t, rfl⟩ := List.exists_cons_of_length_pos (Nat.zero_lt_of_lt h)
  exact ⟨a, t, rfl, Nat.le_of_succ_le_succ h⟩

/-- The command byte of a read, its arguments and any data spell that read. -/
theorem read_of_framed (straps : Straps) {c : PortCommand} {rest : List Byte} (hc : c ∈ portCommands)
    (hread : c.isRead = true) (h : c.arguments ≤ rest.length) :
    ∃ i, (wholeRead c.code rest <|> wholeWrite straps c.code rest) = some i ∧ i.wellFormed = true := by
  simp only [portCommands, List.mem_cons, List.not_mem_nil, or_false] at hc
  rcases hc with rfl | rfl | rfl | rfl | rfl | rfl | rfl | rfl | rfl | rfl | rfl | rfl | rfl | rfl | rfl | rfl | rfl
  any_goals cases hread
  any_goals exact ⟨_, rfl, rfl⟩
  all_goals obtain ⟨a, rest₁, rfl, h₁⟩ := eq_cons_of_le_length h
  any_goals exact ⟨_, rfl, rfl⟩
  obtain ⟨b, rest₂, rfl, -⟩ := eq_cons_of_le_length h₁
  exact ⟨_, rfl, rfl⟩

/-- The command byte of a write and just its arguments spell that write. -/
theorem write_of_framed (straps : Straps) {c : PortCommand} {rest : List Byte} (hc : c ∈ portCommands)
    (hwrite : c.isRead = false) (h : rest.length = c.arguments) :
    ∃ i, (wholeRead c.code rest <|> wholeWrite straps c.code rest) = some i ∧ i.wellFormed = true := by
  simp only [portCommands, List.mem_cons, List.not_mem_nil, or_false] at hc
  rcases hc with rfl | rfl | rfl | rfl | rfl | rfl | rfl | rfl | rfl | rfl | rfl | rfl | rfl | rfl | rfl | rfl | rfl
  any_goals cases hwrite
  any_goals
    obtain rfl := List.eq_nil_of_length_eq_zero h
    exact ⟨_, rfl, rfl⟩
  all_goals obtain ⟨a, rest₁, rfl, h₁⟩ := eq_cons_of_length h
  any_goals
    obtain rfl := List.eq_nil_of_length_eq_zero h₁
    exact ⟨_, rfl, rfl⟩
  all_goals obtain ⟨b, rest₂, rfl, h₂⟩ := eq_cons_of_length h₁
  any_goals
    obtain rfl := List.eq_nil_of_length_eq_zero h₂
    exact ⟨_, rfl, rfl⟩
  all_goals obtain ⟨d, rest₃, rfl, h₃⟩ := eq_cons_of_length h₂
  any_goals
    obtain rfl := List.eq_nil_of_length_eq_zero h₃
    exact ⟨_, rfl, rfl⟩
  all_goals obtain ⟨e, rest₄, rfl, h₄⟩ := eq_cons_of_length h₃
  any_goals
    obtain rfl := List.eq_nil_of_length_eq_zero h₄
    exact ⟨_, rfl, rfl⟩
  obtain ⟨f, rest₅, rfl, h₅⟩ := eq_cons_of_length h₄
  obtain ⟨g, rest₆, rfl, h₆⟩ := eq_cons_of_length h₅
  obtain ⟨k, rest₇, rfl, h₇⟩ := eq_cons_of_length h₆
  obtain ⟨l, rest₈, rfl, h₈⟩ := eq_cons_of_length h₇
  obtain ⟨m, rest₉, rfl, h₉⟩ := eq_cons_of_length h₈
  obtain rfl := List.eq_nil_of_length_eq_zero h₉
  exact ⟨_, rfl, rfl⟩

/-- Bytes framed as their command asks spell a command, and a well-formed one. -/
theorem command_of_framed (straps : Straps) {code : Byte} {rest : List Byte} (h : bytesFramed (code :: rest) = true) :
    ∃ c, (wholeRead code rest <|> wholeWrite straps code rest) = some c ∧ c.wellFormed = true := by
  obtain ⟨c, hc, rfl, hargs, hlength⟩ := portCommand_of_framed h
  cases hread : c.isRead with
  | true => exact read_of_framed straps hc hread hargs
  | false => exact write_of_framed straps hc hread (hlength.resolve_left (by rw [hread]; decide))

/-- Every transaction of at least one byte gives a well-formed command (R179). -/
theorem command_of_bytes (straps : Straps) {bytes : List Byte} (h : bytes ≠ []) :
    ∃ c, transactionCommand straps bytes 0 = some c ∧ c.wellFormed = true := by
  by_cases hb : transactionBroken bytes 0 = true
  · exact ⟨_, transactionCommand_of_broken straps hb, hb⟩
  · obtain ⟨code, rest, rfl⟩ := List.exists_cons_of_ne_nil h
    have hframed : bytesFramed (code :: rest) = true := by simpa [transactionBroken] using hb
    rw [transactionCommand_of_framed straps hframed]
    exact command_of_framed straps hframed

theorem transactionOfBits_bytes (straps : Straps) (bytes : List Byte) {rest : List Bool} (h : rest.length < 8) :
    transactionOfBits straps (bytes.flatMap byteBits ++ rest) = transactionCommand straps bytes rest.length := by
  have hdiv : (8 * bytes.length + rest.length) / 8 = bytes.length := by omega
  have hmod : (8 * bytes.length + rest.length) % 8 = rest.length := by omega
  unfold transactionOfBits
  rw [List.length_append, flatMap_byteBits_length, hdiv, hmod, bytesOf_flatMap]

/-- Settles O10: a port holds one transaction, and its bytes spell one command. -/
theorem portServesOneTransaction : Obligations.PortServesOneTransaction := by
  refine ⟨fun c s => exec_selectReleased, fun straps => ⟨fun data a b => ?_, fun enables a w e => ?_, ?_, ?_, ?_, ?_, ?_, ?_,
    fun bytes n hpos hlt => transactionCommand_of_broken straps ?_, fun bytes h => command_of_bytes straps h, rfl,
    fun bytes rest h => transactionOfBits_bytes straps bytes h, fun b => ⟨rfl, fun i => ?_⟩⟩⟩
  · refine ⟨?_, ?_, ?_, ?_, ?_, ?_⟩
    all_goals exact transactionCommand_of_framed straps (by simp [bytesFramed, portCommands])
  · refine ⟨?_, ?_, ?_, ?_, ?_⟩
    all_goals
      refine (transactionCommand_of_framed straps
        (by simp [bytesFramed, portCommands, bytes2, bytes3, formatImage])).trans ?_
    · show some (Instr.writeEnables (word3 _ _ _) a) = _
      rw [word3_bytes3]
    · show some (Instr.writeParameter a (word2 _ _)) = _
      rw [word2_bytes2]
    · show some (Instr.writeFormat a ⟨e.valid, word2 _ _, e.tolerance, word2 _ _, word2 _ _⟩) = _
      rw [word2_bytes2, word2_bytes2, word2_bytes2]
    · rfl
    · show some (Instr.purge (word2 _ _)) = _
      rw [word2_bytes2]
  any_goals exact transactionCommand_of_framed straps (by decide)
  · simp [transactionBroken, hlt]
    omega
  · fin_cases i <;> rfl

end Sys2Proof.Machine

/-! ## Configuration and operator commands (O13 to O16) -/

namespace Sys2Proof.Machine

/-- A refusal, as the rules write it out. -/
theorem openAnswer_eq (r : PortResult) (s : State) : s.openPort.answer r = refusedWith r s := rfl

/-! ### JOIN (O13) -/

theorem find?_finRange_eq_some_iff {n : Nat} {p : Fin n → Bool} {i : Fin n} :
    (List.finRange n).find? p = some i ↔ p i = true ∧ ∀ j < i, p j = false := by
  rw [List.find?_eq_some_iff_getElem]
  refine and_congr_right fun _ => ⟨?_, fun h => ⟨i.val, by simp, by simp, fun j hj => ?_⟩⟩
  · rintro ⟨k, hk, rfl, h⟩ j hj
    simpa using h j.val (by simpa [Fin.lt_def] using hj)
  · simpa using h ⟨j, hj.trans i.isLt⟩ hj

theorem find?_finRange_eq_none_iff {n : Nat} {p : Fin n → Bool} :
    (List.finRange n).find? p = none ↔ ∀ i, p i = false := by
  simp

section
variable {p : ParamStore}

theorem badLine_eq_none (h : ∀ i : Fin 8, lineRange i p.line[i].toNat = true) : p.badLine = none :=
  find?_finRange_eq_none_iff.mpr fun i => congrArg not (h i)

theorem badLine_eq_some {i : Fin 8} (hi : lineRange i p.line[i].toNat = false)
    (h : ∀ j < i, lineRange j p.line[j].toNat = true) : p.badLine = some i :=
  find?_finRange_eq_some_iff.mpr ⟨congrArg not hi, fun j hj => congrArg not (h j hj)⟩

theorem entryValid_iff (e : FormatEntry) : entryValid e = true ↔ e.valid = 1 := beq_iff_eq

/-- An entry that is not valid, or in range, passes (R10). -/
theorem entry_passes {e : FormatEntry} (h : e.valid = 1 → entryInRange e = true) :
    (entryValid e && !entryInRange e) = false := by
  cases hv : entryValid e with
  | true => rw [h ((entryValid_iff e).mp hv)]; rfl
  | false => rfl

theorem badFormat_eq_none (h : ∀ i : Fin 16, p.formats[i].valid = 1 → entryInRange p.formats[i] = true) :
    p.badFormat = none :=
  find?_finRange_eq_none_iff.mpr fun i => entry_passes (h i)

theorem badFormat_eq_some {i : Fin 16} (hv : p.formats[i].valid = 1) (hi : entryInRange p.formats[i] = false)
    (h : ∀ j < i, p.formats[j].valid = 1 → entryInRange p.formats[j] = true) : p.badFormat = some i :=
  find?_finRange_eq_some_iff.mpr
    ⟨congrArg₂ and ((entryValid_iff _).mpr hv) (congrArg not hi), fun j hj => entry_passes (h j hj)⟩

theorem noFormat_iff : p.noFormat = true ↔ ∀ i : Fin 16, p.formats[i].valid ≠ 1 := by
  unfold ParamStore.noFormat entryValid
  simp [Fin.forall_iff, Vector.any_eq_false]

theorem badStation_eq_none (h : ∀ i : Fin 20, stationRange i p.station[i].toNat = true) : p.badStation = none :=
  find?_finRange_eq_none_iff.mpr fun i => congrArg not (h i)

theorem badStation_eq_some {i : Fin 20} (hi : stationRange i p.station[i].toNat = false)
    (h : ∀ j < i, stationRange j p.station[j].toNat = true) : p.badStation = some i :=
  find?_finRange_eq_some_iff.mpr ⟨congrArg not hi, fun j hj => congrArg not (h j hj)⟩

/-! The items of the check, in the order in which they decide (R38). -/

theorem offendingItem_of_role (h : Role.ofCode p.straps.role.toNat = none) : p.offendingItem = some 0 := by
  unfold ParamStore.offendingItem
  rw [h]
  rfl

theorem offendingItem_of_badLine {i : Fin 8} (hrole : (Role.ofCode p.straps.role.toNat).isSome)
    (h : p.badLine = some i) : p.offendingItem = some (1 + i.val) := by
  have hnone : ¬ (Role.ofCode p.straps.role.toNat).isNone = true := by
    rw [Option.isNone_iff_eq_none]
    exact Option.isSome_iff_ne_none.mp hrole
  unfold ParamStore.offendingItem
  rw [if_neg hnone, h]

/-- Once role and line parameters pass, the format table decides, and then the station parameters. -/
theorem offendingItem_of_lineItems (h : lineItemsPass p) :
    (∀ i, p.badFormat = some i → p.offendingItem = some (16 + i.val)) ∧
    (p.badFormat = none → p.noFormat = true → p.offendingItem = some 16) ∧
    (p.badFormat = none → p.noFormat = false → p.offendingItem = p.badStation.map fun i => 32 + i.val) := by
  obtain ⟨hrole, hline⟩ := h
  have hnone : ¬ (Role.ofCode p.straps.role.toNat).isNone = true := by
    rw [Option.isNone_iff_eq_none]
    exact Option.isSome_iff_ne_none.mp hrole
  unfold ParamStore.offendingItem
  rw [if_neg hnone, badLine_eq_none hline]
  refine ⟨fun i hi => ?_, fun hb hn => ?_, fun hb hn => ?_⟩
  · rw [hi]
  · rw [hb, hn]
    rfl
  · rw [hb, hn]
    rfl

theorem formats_of_pass (h : formatItemsPass p) : p.badFormat = none ∧ p.noFormat = false := by
  obtain ⟨hpass, i, hi⟩ := h
  refine ⟨badFormat_eq_none hpass, ?_⟩
  by_contra hno
  exact noFormat_iff.mp (by simpa using hno) i hi

end

/-- JOIN of a configuration that does not pass names the item at which the check stops (R38). -/
theorem join_of_offending {s : State} {n : Nat} (hs : s.mem.station = .config)
    (h : s.params.offendingItem = some n) :
    exec .join s = .next (refusedWith .refusedRange { s with params.offending := BitVec.ofNat 8 n }) := by
  show execJoin s = _
  unfold execJoin
  rw [(locked_eq_false_iff s).mpr hs, h]
  rfl

/-- JOIN taken with an empty queue (R39). -/
theorem acceptJoin_of_empty {s : State} (hq : s.bus.txq = []) : s.acceptJoin =
    let digest := lineDigest s.params.line s.params.formats
    { s with
      params := { s.params with digest := digest, offending := 255 }
      bus := { attached := true, txq := [⟨.join s.params.straps.role digest, 0⟩], frame := .none, drive := .none,
               quiet := 0 }
      mem := { s.mem with station := .joining }
      port := s.port.append .joinTaken 0 (.value digest.toNat) } := by
  unfold State.acceptJoin
  dsimp only
  rw [queue_of_room _ _ (.inl rfl) (by dsimp only; rw [hq]; decide)]
  dsimp only
  rw [hq]
  rfl

theorem append_sameSettings (k : JournalKind) (tag : W16) (d : Detail) (p : PortUnit) :
    p.sameSettings (p.append k tag d) := by
  unfold PortUnit.append
  dsimp only
  split <;> exact ⟨rfl, rfl, rfl, rfl, rfl, rfl, rfl⟩

/-- Settles O13: JOIN refused by the first item that fails, or taken. -/
theorem joinChecksThenAttaches : Obligations.JoinChecksThenAttaches := by
  refine ⟨fun s => ⟨fun hs => ?_, fun hs => ⟨fun hr => ?_, fun i hr hi h => ?_, fun i hl hv hi h => ?_, fun hl hno => ?_,
    fun i hl hf hi h => ?_⟩⟩, fun s hs hq hl hf hst => ?_⟩
  · exact congrArg Host.Outcome.next (if_pos ((locked_eq_true_iff s).mpr hs))
  · exact join_of_offending hs (offendingItem_of_role hr)
  · exact join_of_offending hs (offendingItem_of_badLine hr (badLine_eq_some hi h))
  · exact join_of_offending hs ((offendingItem_of_lineItems hl).1 i (badFormat_eq_some hv hi h))
  · exact join_of_offending hs ((offendingItem_of_lineItems hl).2.1
      (badFormat_eq_none fun j hv => absurd hv (hno j)) (noFormat_iff.mpr hno))
  · obtain ⟨hbad, hno⟩ := formats_of_pass hf
    refine join_of_offending hs (((offendingItem_of_lineItems hl).2.2 hbad hno).trans ?_)
    rw [badStation_eq_some hi h]
    rfl
  · obtain ⟨hbad, hno⟩ := formats_of_pass hf
    have hpass : s.params.offendingItem = none := by
      rw [(offendingItem_of_lineItems hl).2.2 hbad hno, badStation_eq_none hst]
      rfl
    have hexec : exec .join s = .next (s.openPort.acceptJoin.answer .accepted) := by
      show execJoin s = _
      unfold execJoin
      rw [(locked_eq_false_iff s).mpr hs, hpass]
      rfl
    rw [acceptJoin_of_empty (s := s.openPort) hq] at hexec
    obtain ⟨henables, -, -, -, hretired, -⟩ := append_sameSettings .joinTaken 0
      (.value (lineDigest s.params.line s.params.formats).toNat) s.openPort.port
    exact ⟨_, hexec, rfl, rfl, rfl, rfl, append_journal_getLast? _ _ _ _, henables, hretired, rfl⟩

end Sys2Proof.Machine

namespace Sys2Proof.Machine

/-! ### Notices queued with a place free

Each operation that queues a notice, where the queue has a place for it. -/

theorem not_halted_of_active {s : State} (h : s.isActive) : s.mem.station ≠ .halted := by
  rcases h with h | h <;> rw [h] <;> decide

theorem andThen_of_active {s : State} (f : State → State) (h : s.isActive) : s.andThen f = f s :=
  andThen_of_not_halted s f (not_halted_of_active h)

/-- A departure queues the VOID of its record, if it has one (R87). -/
theorem voidFor_of_room (b : BookRecord) {s : State} (ha : s.isActive) (hq : s.bus.txq.length < Config.txqCap) :
    s.voidFor b = { s with bus.txq := s.bus.txq ++ voidNotices b } := by
  unfold State.voidFor voidNotices
  cases b.key with
  | none => simp
  | some k =>
    dsimp only
    split
    · simp
    · rw [queue_of_room _ _ ha hq]

theorem voidNotices_length (b : BookRecord) : (voidNotices b).length ≤ 1 := by
  unfold voidNotices
  split
  · simp
  · split <;> simp

/-- The standing of the room as R84 judges it. -/
def State.roomNow (s : State) : Bool := decide ((s.roomMargin : Int) < s.room)

theorem roomNow_iff (s : State) :
    s.roomNow = true ↔ s.roomMargin + s.zt.zone.length + s.zt.incoming.length < 8 := by
  unfold State.roomNow State.room
  rw [decide_eq_true_iff]
  simp only [Config.zoneCap]
  omega

/-- Room judged afresh (R84, R85). -/
theorem judgeRoom_of_room {s : State} (ha : s.isActive) (hq : s.bus.txq.length < Config.txqCap) : s.judgeRoom =
    let told := s.roomNow ≠ s.zt.roomOpen ∧ s.mem.station = .running
    { s with
      bus.txq := s.bus.txq ++ (if told then [⟨.room s.roomNow, 0⟩] else [])
      zt.roomOpen := s.roomNow
      zt.announced := if told then some s.roomNow else s.zt.announced } := by
  have hunfold : s.judgeRoom = if s.roomNow = s.zt.roomOpen then s else
      if State.isRunning { s with zt.roomOpen := s.roomNow } then
        (State.queue (.room s.roomNow) { s with zt.roomOpen := s.roomNow }).andThen
          fun t => { t with zt.announced := some s.roomNow }
      else { s with zt.roomOpen := s.roomNow } := rfl
  rw [hunfold]
  by_cases hsame : s.roomNow = s.zt.roomOpen
  · have hquiet : ¬ (s.roomNow ≠ s.zt.roomOpen ∧ s.mem.station = .running) := fun h => h.1 hsame
    dsimp only
    rw [if_pos hsame, if_neg hquiet, if_neg hquiet, List.append_nil, hsame]
  · rw [if_neg hsame]
    by_cases hs : s.mem.station = .running
    · have hrun : State.isRunning { s with zt.roomOpen := s.roomNow } := hs
      have htold : s.roomNow ≠ s.zt.roomOpen ∧ s.mem.station = .running := ⟨hsame, hs⟩
      dsimp only
      rw [if_pos hrun, queue_of_room _ _ (show State.isActive { s with zt.roomOpen := s.roomNow } from ha) hq,
        andThen_of_active _ (show State.isActive { s with zt.roomOpen := s.roomNow, bus.txq := _ } from ha),
        if_pos htold, if_pos htold]
    · have hrun : ¬ State.isRunning { s with zt.roomOpen := s.roomNow } := hs
      have hquiet : ¬ (s.roomNow ≠ s.zt.roomOpen ∧ s.mem.station = .running) := fun h => hs h.2
      dsimp only
      rw [if_neg hrun, if_neg hquiet, if_neg hquiet, List.append_nil]

/-- A record leaves the line (R87): its entry, its VOID, and the room afresh. -/
theorem depart_of_room (k : JournalKind) (d : Detail) (b : BookRecord) {s : State} (ha : s.isActive)
    (hq : s.bus.txq.length ≤ 14) : s.depart k d b =
    let told := s.roomNow ≠ s.zt.roomOpen ∧ s.mem.station = .running
    { s with
      bus.txq := s.bus.txq ++ voidNotices b ++ (if told then [⟨.room s.roomNow, 0⟩] else [])
      zt.roomOpen := s.roomNow
      zt.announced := if told then some s.roomNow else s.zt.announced
      port := s.port.append k b.tag d } := by
  have hvoid := voidFor_of_room b (s := s.log k b.tag d) ha (by
    show s.bus.txq.length < 16
    omega)
  unfold State.depart
  rw [hvoid, andThen_of_active _ (by exact ha), judgeRoom_of_room (by exact ha)]
  · rfl
  · show (s.bus.txq ++ voidNotices b).length < 16
    have := voidNotices_length b
    rw [List.length_append]
    omega

/-- `u` stands as `s` but for its lists, its eyes, its work, its reader and its port. -/
def State.besideLists (s u : State) : Prop :=
  u.bus = s.bus ∧ u.mem = s.mem ∧ u.params = s.params ∧ u.heat = s.heat ∧ u.parts = s.parts ∧
    u.zt = { s.zt with
      zone := u.zt.zone, incoming := u.zt.incoming, lengthCount := u.zt.lengthCount, eyes := u.zt.eyes }

theorem roomMargin_of_params {s u : State} (h : u.params = s.params) : u.roomMargin = s.roomMargin := by
  unfold State.roomMargin State.stationParam
  rw [h]

/-- The room follows where the standing is that of `s` and the notices are queued behind those of `s`. -/
theorem roomFollows_of_eq {sent : List TxEntry} {s u t : State} (hu : s.besideLists u)
    (ht : t.zt = { u.zt with
      roomOpen := u.roomNow
      announced := if u.roomNow ≠ u.zt.roomOpen ∧ u.mem.station = .running then some u.roomNow else u.zt.announced })
    (hb : t.bus = { u.bus with txq := u.bus.txq ++ sent ++
      (if u.roomNow ≠ u.zt.roomOpen ∧ u.mem.station = .running then [⟨.room u.roomNow, 0⟩] else []) }) :
    roomFollows sent s t := by
  obtain ⟨hbus, hmem, hparams, -, -, hzt⟩ := hu
  have hopen : u.zt.roomOpen = s.zt.roomOpen := by rw [hzt]
  have hannounced : u.zt.announced = s.zt.announced := by rw [hzt]
  unfold roomFollows
  rw [hb, ht, ← hbus, ← hmem, ← hopen, ← hannounced]
  refine ⟨?_, rfl, rfl, ?_, ?_⟩
  · rw [← roomMargin_of_params hparams]
    exact roomNow_iff u
  · show u.zt.roomHeard = s.zt.roomHeard
    rw [hzt]
  · show u.zt.draining = s.zt.draining
    rw [hzt]

/-- What a departure leaves: the lists, the work and the reader as they are, its entry, and what `departed` says. -/
theorem depart_spec {s u : State} (k : JournalKind) (d : Detail) (b : BookRecord) (hu : s.besideLists u)
    (ha : s.isActive) (hq : s.bus.txq.length ≤ 14) :
    let t := u.depart k d b
    departed b s t ∧ t.zt.zone = u.zt.zone ∧ t.zt.incoming = u.zt.incoming ∧ t.work = u.work ∧ t.rd = u.rd ∧
      t.port = u.port.append k b.tag d ∧ t.zt.eyes = u.zt.eyes ∧ t.zt.lengthCount = u.zt.lengthCount := by
  have hfollows := roomFollows_of_eq (sent := voidNotices b) (t := u.depart k d b) hu
  obtain ⟨hbus, hmem, hparams, hheat, hparts, hzt⟩ := hu
  have ha' : u.isActive := by
    unfold State.isActive
    rw [hmem]
    exact ha
  have heq := depart_of_room k d b ha' (by rwa [hbus])
  have htag : u.zt.tagCounter = s.zt.tagCounter := by rw [hzt]
  rw [heq] at hfollows ⊢
  exact ⟨⟨hfollows rfl rfl, hmem, hparams, hheat, hparts, htag⟩, rfl, rfl, rfl, rfl, rfl, rfl, rfl⟩

/-- The entry of a departure is the newest, and it leaves the last command result. -/
theorem append_newest {p q : PortUnit} (k : JournalKind) (tag : W16) (d : Detail) (hresult : p.result = .accepted)
    (hstamp : p.stamp = q.stamp) :
    (p.append k tag d).result = .accepted ∧ (p.append k tag d).journal.getLast? = some ⟨k, tag, d, q.stamp⟩ :=
  ⟨(append_result k tag d p).trans hresult, hstamp ▸ append_journal_getLast? k tag d p⟩

/-! ### PURGE (O15) -/

/-- Abandoning the work writes the reader and the work alone. -/
theorem abandonWork_eq (s : State) :
    s.abandonWork = { s with rd := s.abandonWork.rd, work := s.abandonWork.work } := by
  unfold State.abandonWork
  split <;> rfl

/-- What each role abandons (R74). -/
theorem abandonWork_by_role (s : State) :
    (s.role = some .infeed → s.abandonWork.rd = { s.rd with window := none }) ∧
    (s.role = some .case ∨ s.role = some .jacket → s.abandonWork.work = { s.work with
      parts := .idle, matchIndex := none, cycle := s.work.cycle.map fun c => { c with owned := false } }) ∧
    (s.role = some .gate → s.abandonWork.work = { s.work with divert := none }) := by
  unfold State.abandonWork
  refine ⟨fun h => by rw [h], fun h => ?_, fun h => by rw [h]⟩
  rcases h with h | h <;> rw [h]

/-- What is abandoned depends on the role, the work and the reader alone. -/
theorem abandonWork_congr {s u : State} (hp : u.params = s.params) (hw : u.work = s.work) (hr : u.rd = s.rd) :
    u.abandonWork.work = s.abandonWork.work ∧ u.abandonWork.rd = s.abandonWork.rd := by
  unfold State.abandonWork State.role
  rw [hp]
  split <;> simp only [hw, hr, and_self]

theorem purge_of_not_active (tag : W16) {s : State} (h : ¬ s.isActive) :
    exec (.purge tag) s = .next (refusedWith .refusedState s) := congrArg Host.Outcome.next (if_pos h)

theorem clamp_iff (s : State) : s.clamp = true ↔ s.mem.station = .running ∧ s.work.press ≠ .idle := by
  unfold State.clamp
  simp only [Bool.and_eq_true, runs_iff, bne_iff_ne]

section
variable {tag : W16} {s : State}

theorem purgeZone?_eq_none (h : ∀ z ∈ s.zt.zone, z.book.tag ≠ tag) : s.purgeZone? tag = none :=
  List.find?_eq_none.mpr fun z hz => by simpa using h z hz

/-- PURGE of a record of the zone list. -/
theorem purge_of_zone {z : ZoneRecord} (ha : s.isActive) (hz : s.purgeZone? tag = some z) : exec (.purge tag) s =
    .next (if z.phase = .atWork ∧ s.clamp then refusedWith .refusedBusy s
      else (s.openPort.answer .accepted).purgeZone tag z) := by
  show execPurge tag s = _
  unfold execPurge
  dsimp only
  rw [if_neg (not_not.mpr ha), hz]
  rfl

/-- PURGE of a record of the incoming list. -/
theorem purge_of_incoming {r : IncomingRecord} (ha : s.isActive) (hz : s.purgeZone? tag = none)
    (hr : s.purgeIncoming? tag = some r) :
    exec (.purge tag) s = .next ((s.openPort.answer .accepted).purgeIncoming tag r) := by
  show execPurge tag s = _
  unfold execPurge
  dsimp only
  rw [if_neg (not_not.mpr ha), hz, hr]

theorem purge_of_none (ha : s.isActive) (hz : s.purgeZone? tag = none) (hr : s.purgeIncoming? tag = none) :
    exec (.purge tag) s = .next (refusedWith .refusedRange s) := by
  show execPurge tag s = _
  unfold execPurge
  dsimp only
  rw [if_neg (not_not.mpr ha), hz, hr]
  rfl

/-- What the PURGE of a zone record leaves. -/
theorem purgeZone_spec {z : ZoneRecord} (ha : s.isActive) (hq : s.bus.txq.length ≤ 14) (htag : z.book.tag = tag) :
    let t := (s.openPort.answer .accepted).purgeZone tag z
    t.port.result = .accepted ∧ t.zt.zone = s.zt.zone.eraseP (fun y => y.book.tag == tag) ∧
    t.zt.incoming = s.zt.incoming ∧ departed z.book s t ∧
    t.port.journal.getLast? = some ⟨.purged, tag, .none, s.port.stamp⟩ ∧
    t.work = (if z.phase = .atWork then s.abandonWork.work else s.work) ∧
    t.rd = (if z.phase = .atWork then s.abandonWork.rd else s.rd) := by
  have hleaves (u : State) (hu : s.besideLists u) (hp : u.port = (s.openPort.answer .accepted).port)
      (hzone : u.zt.zone = s.zt.zone.eraseP (fun y => y.book.tag == tag)) (hin : u.zt.incoming = s.zt.incoming) :
      let t := u.depart .purged .none z.book
      t.port.result = .accepted ∧ t.zt.zone = s.zt.zone.eraseP (fun y => y.book.tag == tag) ∧
      t.zt.incoming = s.zt.incoming ∧ departed z.book s t ∧
      t.port.journal.getLast? = some ⟨.purged, tag, .none, s.port.stamp⟩ ∧ t.work = u.work ∧ t.rd = u.rd := by
    obtain ⟨hdeparted, hz, hi, hwork, hrd, hport, -⟩ := depart_spec .purged .none z.book hu ha hq
    obtain ⟨hresult, hjournal⟩ := append_newest (q := s.port) .purged tag .none (congrArg PortUnit.result hp)
      (show u.port.stamp = s.port.stamp by rw [hp]; rfl)
    rw [← htag, ← hport] at hresult hjournal
    rw [htag] at hjournal
    exact ⟨hresult, hz.trans hzone, hi.trans hin, hdeparted, hjournal, hwork, hrd⟩
  unfold State.purgeZone
  dsimp only
  split
  · obtain ⟨hwork, hrd⟩ := abandonWork_congr (s := s) (u := { s.openPort.answer .accepted with zt := { s.zt with
      zone := s.zt.zone.eraseP fun y => y.book.tag == tag } }) rfl rfl rfl
    rw [← hwork, ← hrd]
    refine hleaves _ ?_ ?_ ?_ ?_
    all_goals rw [abandonWork_eq]
    exact ⟨rfl, rfl, rfl, rfl, rfl, rfl⟩
    all_goals rfl
  · exact hleaves _ ⟨rfl, rfl, rfl, rfl, rfl, rfl⟩ rfl rfl rfl

/-- What the PURGE of an incoming record leaves. -/
theorem purgeIncoming_spec {r : IncomingRecord} (ha : s.isActive) (hq : s.bus.txq.length ≤ 14)
    (htag : r.book.tag = tag) :
    let t := (s.openPort.answer .accepted).purgeIncoming tag r
    t.port.result = .accepted ∧ t.zt.zone = s.zt.zone ∧
    t.zt.incoming = s.zt.incoming.eraseP (fun y => y.book.tag == tag) ∧ departed r.book s t ∧ t.work = s.work ∧
    t.rd = s.rd ∧ t.port.journal.getLast? = some ⟨.purged, tag, .none, s.port.stamp⟩ := by
  obtain ⟨hdeparted, hzone, hincoming, hwork, hrd, hport, -⟩ := depart_spec .purged .none r.book (s := s)
    (u := { s.openPort.answer .accepted with
      zt := { s.zt with incoming := s.zt.incoming.eraseP fun y => y.book.tag == tag } })
    ⟨rfl, rfl, rfl, rfl, rfl, rfl⟩ ha hq
  obtain ⟨hresult, hjournal⟩ := append_newest (p := (s.openPort.answer .accepted).port) (q := s.port) .purged r.book.tag
    .none rfl rfl
  rw [htag] at hjournal
  refine ⟨?_, hzone, hincoming, hdeparted, hwork, hrd, ?_⟩
  · exact (congrArg PortUnit.result hport).trans hresult
  · exact (congrArg (fun p : PortUnit => p.journal.getLast?) (hport.trans (by rw [htag]))).trans hjournal

end

/-- Settles O15: each list in turn, and the refusals. -/
theorem purgeTakesTheRecordNamed : Obligations.PurgeTakesTheRecordNamed := by
  refine fun tag s => ⟨fun hs => purge_of_not_active tag (not_isActive_of_config_or_halted hs), fun ha =>
    ⟨fun hzone hincoming => ?_, fun z hz => ⟨fun hat hs hp => ?_, fun hfree hq => ?_⟩, fun r hzone hr hq => ?_⟩⟩
  · exact purge_of_none ha (purgeZone?_eq_none hzone) (List.find?_eq_none.mpr fun r hr => by simpa using hincoming r hr)
  · rw [purge_of_zone ha hz, if_pos ⟨hat, (clamp_iff s).mpr ⟨hs, hp⟩⟩]
  · have hopen : ¬ (z.phase = .atWork ∧ s.clamp = true) := fun ⟨hat, hclamp⟩ =>
      hfree.elim (fun h => h hat) fun h => ((clamp_iff s).mp hclamp).2 h
    obtain ⟨hresult, hzone, hincoming, hdeparted, hjournal, hwork, hrd⟩ :=
      purgeZone_spec ha hq (by simpa using List.find?_some hz)
    obtain ⟨hinfeed, hmagazine, hgate⟩ := abandonWork_by_role s
    refine ⟨_, by rw [purge_of_zone ha hz, if_neg hopen], hresult, hzone, hincoming, hdeparted, hjournal,
      fun hat => ?_, fun hat hr => ?_, fun hat hr => ?_, fun hat hr => ?_⟩
    · rw [if_neg hat] at hwork hrd
      exact ⟨hwork, hrd⟩
    · rw [if_pos hat] at hrd
      exact hrd.trans (hinfeed hr)
    · rw [if_pos hat] at hwork
      exact hwork.trans (hmagazine hr)
    · rw [if_pos hat] at hwork
      exact hwork.trans (hgate hr)
  · exact ⟨_, purge_of_incoming ha (purgeZone?_eq_none hzone) hr,
      purgeIncoming_spec ha hq (by simpa using List.find?_some hr)⟩

end Sys2Proof.Machine

namespace Sys2Proof.Machine

/-! ### Claims given up and keep-warm judged -/

/-- The notice that giving the own claim up queues (R132, R133). -/
def givenUpNotices : ClaimState → List TxEntry
  | .queued | .waiting => [⟨.withdraw, 0⟩]
  | .holding => [⟨.release, 0⟩]
  | .returning | .none => []

/-- The own claim once it is given up. -/
def HeatShare.givenUp (h : HeatShare) : HeatShare :=
  match h.claim with
  | .queued | .waiting => { h with claim := .returning, use := .none, claimWait := none }
  | .holding => { h with claim := .returning, use := .none }
  | .returning | .none => h

theorem giveUp_of_room {s : State} (ha : s.isActive) (hq : s.bus.txq.length < Config.txqCap) :
    s.giveUp = { s with bus.txq := s.bus.txq ++ givenUpNotices s.heat.claim, heat := s.heat.givenUp } := by
  have hgiven (n : Notice) (f : State → State) :
      (s.queue n).andThen f = f { s with bus.txq := s.bus.txq ++ [⟨n, 0⟩] } := by
    rw [queue_of_room n s ha hq]
    exact andThen_of_active _ ha
  unfold State.giveUp givenUpNotices HeatShare.givenUp
  cases s.heat.claim <;> simp only [hgiven, List.append_nil]

theorem mayClaim_iff (s : State) :
    s.mayClaim = true ↔ s.mem.station = .running ∧ s.heat.claim = .none ∧ s.heat.holdOff = none := by
  unfold State.mayClaim
  simp only [Bool.and_eq_true, beq_iff_eq, Option.isNone_iff_eq_none, and_assoc]

theorem queueClaim_of_room (c : ClaimClass) (u : ClaimUse) {s : State} (ha : s.isActive)
    (hq : s.bus.txq.length < Config.txqCap) :
    s.queueClaim c u = { s with bus.txq := s.bus.txq ++ [⟨.claim c, 0⟩], heat.claim := .queued, heat.use := u } := by
  unfold State.queueClaim
  rw [queue_of_room _ _ ha hq]
  exact andThen_of_active _ ha

/-- Keep-warm is judged by the keep-warm conditions (R134, R141). -/
theorem warmthAsked_judgeKeepwarm (s : State) : warmthAsked s s.judgeKeepwarm := by
  have hwarm : s.wantsKeepwarm = true ↔ s.role = some .press ∧ s.mem.station = .running ∧ s.heat.claim = .none ∧
      s.heat.holdOff = none ∧ s.heat.due = true ∧ s.heat.warm = true ∧
      (s.zt.zone ≠ [] ∨ s.zt.incoming ≠ []) ∧ s.work.press = .idle ∧ s.mem.guardOpen = false := by
    unfold State.wantsKeepwarm
    simp only [Bool.and_eq_true, Bool.or_eq_true, Bool.not_eq_true', beq_iff_eq, mayClaim_iff, and_assoc,
      List.isEmpty_eq_false_iff]
  refine ⟨fun h hq => ?_, fun h => ?_⟩
  · unfold State.judgeKeepwarm
    rw [if_pos (hwarm.mpr h), queueClaim_of_room _ _ (.inr h.2.1) hq]
  · unfold State.judgeKeepwarm
    rw [if_neg (mt hwarm.mp h)]

theorem judgeKeepwarm_of_claim {s : State} (h : s.heat.claim ≠ .none) : s.judgeKeepwarm = s :=
  (warmthAsked_judgeKeepwarm s).2 fun hw => h hw.2.2.1

/-- Keep-warm judged, with a place free, writes the queue and the claim alone. -/
theorem judgeKeepwarm_of_room {s : State} (hq : s.bus.txq.length < Config.txqCap) :
    ∃ q c u, s.judgeKeepwarm = { s with bus.txq := q, heat.claim := c, heat.use := u } := by
  obtain ⟨hwarm, hcold⟩ := warmthAsked_judgeKeepwarm s
  by_cases h : s.role = some .press ∧ s.mem.station = .running ∧ s.heat.claim = .none ∧
      s.heat.holdOff = none ∧ s.heat.due = true ∧ s.heat.warm = true ∧
      (s.zt.zone ≠ [] ∨ s.zt.incoming ≠ []) ∧ s.work.press = .idle ∧ s.mem.guardOpen = false
  · exact ⟨_, _, _, hwarm h hq⟩
  · exact ⟨_, _, _, hcold h⟩

/-- A change of the first record picked, twice, is one change where the record stays picked. -/
theorem mapFirst_mapFirst {α : Type} {p : α → Bool} {f g : α → α}
    (hf : ∀ x, p x = true → p (f x) = true) (l : List α) :
    mapFirst p g (mapFirst p f l) = mapFirst p (fun x => g (f x)) l := by
  induction l with
  | nil => rfl
  | cons x xs ih =>
    by_cases hx : p x = true
    · simp only [mapFirst, hx, hf x hx, if_true]
    · simp [mapFirst, hx, ih]

/-! ### MARK (O14) -/

theorem workTag_of_atWork {s : State} {z : ZoneRecord} (h : s.atWork? = some z) : s.workTag = z.book.tag := by
  unfold State.workTag
  rw [h]
  rfl

/-- The state once the record at work is marked and the entry made. -/
def State.machineMarked (s : State) (z : ZoneRecord) : State :=
  { s with
    port := (s.openPort.answer .accepted).port.append .machineMark z.book.tag .none
    zt.zone := mapFirst (fun y => y.phase == .atWork)
      (ZoneRecord.onBook (BookRecord.addMark .machine s.own)) s.zt.zone }

theorem mark_of_atWork {s : State} {z : ZoneRecord} (hs : s.mem.station = .running) (hz : s.atWork? = some z) :
    exec (.mark 12) s = .next (s.machineMarked z).afterMark := by
  have hon : ¬ (¬ s.isRunning ∨ s.atWork?.isNone = true) := by
    rw [hz]
    exact fun h => h.elim (fun hn => hn hs) fun hn => by cases hn
  show execMark 12 s = _
  unfold execMark
  dsimp only
  rw [if_neg hon, workTag_of_atWork hz]
  rfl

theorem givenUpNotices_length (c : ClaimState) : (givenUpNotices c).length ≤ 1 := by
  cases c <;> decide

/-- A press that gives its book up in WAIT_SHARE (R157), with places free: before keep-warm is judged. -/
def State.bookLeft (s : State) : State :=
  { s with
    bus.txq := s.bus.txq ++ givenUpNotices s.heat.claim
    heat := HeatShare.givenUp { s.heat with pendingBook := false }
    zt := s.markWorked.zt
    work := { s.work with press := .idle, book := PressBook.none, heat := none, setLeft := none, suspendLeft := none } }

theorem leaveWait_of_room {s : State} (ha : s.isActive) (hq : s.bus.txq.length < Config.txqCap) :
    s.leaveWait = s.bookLeft.judgeKeepwarm := by
  unfold State.leaveWait State.giveUpBook
  rw [giveUp_of_room (s := { s with heat.pendingBook := false }) ha hq, andThen_of_active _ (by exact ha)]
  rfl

theorem bookLeft_heat (s : State) : s.bookLeft.heat.pendingBook = false ∧
    (s.heat.claim = .queued ∨ s.heat.claim = .waiting →
      s.bookLeft.heat.claim = .returning ∧ s.bookLeft.heat.use = .none ∧ s.bookLeft.heat.claimWait = none ∧
      s.bookLeft.bus.txq = s.bus.txq ++ [⟨.withdraw, 0⟩]) := by
  unfold State.bookLeft HeatShare.givenUp givenUpNotices
  cases s.heat.claim <;> simp

/-- Settles O14: MARK refused, taken by work that goes on, and taken in WAIT_SHARE. -/
theorem markMarksTheRecordAtWork : Obligations.MarkMarksTheRecordAtWork := by
  refine fun kind s => ⟨fun h => ?_, fun z hs hz => ⟨fun hk => ?_, ?_, ?_⟩⟩
  · refine congrArg Host.Outcome.next (if_pos (h.imp id fun hz => ?_))
    rw [hz]
    rfl
  · have hon : ¬ (¬ s.isRunning ∨ s.atWork?.isNone = true) := by
      rw [hz]
      exact fun h => h.elim (fun hn => hn hs) fun hn => by cases hn
    exact congrArg Host.Outcome.next ((if_neg hon).trans (if_pos hk))
  · rintro rfl hgoes
    refine ⟨_, (mark_of_atWork hs hz).trans (congrArg Host.Outcome.next (if_neg hgoes)), append_result _ _ _ _,
      append_journal_getLast? _ _ _ _⟩
  · rintro rfl hr hp hq
    have ha : (s.machineMarked z).isActive := .inr hs
    have hleft := leaveWait_of_room ha (Nat.lt_succ_of_lt hq)
    obtain ⟨hpending, hgiven⟩ := bookLeft_heat (s.machineMarked z)
    have hexec : exec (.mark 12) s = .next ((s.machineMarked z).bookLeft.judgeKeepwarm) := by
      rw [mark_of_atWork hs hz, ← hleft]
      exact congrArg Host.Outcome.next (if_pos ⟨hr, hp⟩)
    have hqueue : (s.machineMarked z).bookLeft.bus.txq.length < Config.txqCap := by
      have := givenUpNotices_length s.heat.claim
      show (s.bus.txq ++ givenUpNotices s.heat.claim).length < 16
      rw [List.length_append]
      omega
    obtain ⟨q, c, u, hkeep⟩ := judgeKeepwarm_of_room hqueue
    refine ⟨_, hexec, ?_, ?_, ?_, ?_, fun hclaim => ?_, ?_⟩
    · rw [hkeep]
      exact append_result _ _ _ _
    · rw [hkeep]
      exact append_journal_getLast? _ _ _ _
    · rw [hkeep]
      rfl
    · rw [hkeep]
      exact hpending
    · obtain ⟨hreturning, huse, hwait, htxq⟩ := hgiven hclaim
      rw [judgeKeepwarm_of_claim (by rw [hreturning]; decide)]
      exact ⟨hreturning, huse, hwait, htxq⟩
    · rw [hkeep]
      exact mapFirst_mapFirst (p := fun y => y.phase == .atWork)
        (f := ZoneRecord.onBook (BookRecord.addMark .machine s.own)) (fun _ h => h) s.zt.zone

/-! ### MAGAZINE CLEAR (O16) -/

section
variable {s : State}

theorem judgeHousekeeping_of_empty (h : s.parts.magazine = []) : s.judgeHousekeeping = s :=
  if_neg fun hw => by
    have hwanted := hw.2.2.2.2.2
    unfold State.headUnwanted at hwanted
    rw [h] at hwanted
    cases hwanted

theorem partsDone_of_empty (h : s.parts.magazine = []) :
    s.partsDone = { s.markWorked with work.parts := .idle, work.matchIndex := none } :=
  judgeHousekeeping_of_empty h

theorem matchAt_of_empty (b : BookRecord) (h : s.parts.magazine = []) : s.matchAt b = none := by
  unfold State.matchAt
  rw [h]
  rfl

/-- The newest entry stays in the journal when one more follows it (R190). -/
theorem mem_append_of_newest {p : PortUnit} {e : JournalEntry} (k : JournalKind) (tag : W16) (d : Detail)
    (h : p.journal.getLast? = some e) : e ∈ (p.append k tag d).journal := by
  have hmem : e ∈ p.journal := List.mem_of_getLast? h
  unfold PortUnit.append
  dsimp only
  split
  · exact List.mem_append_left _ hmem
  next hfull =>
    refine List.mem_append_left _ (List.mem_of_getLast? ?_)
    rw [List.getLast?_drop, if_neg ?_, h]
    have hcap : Config.journalCap = 32 := rfl
    omega

/-- The thresholds judged on an empty magazine. -/
theorem judgeThresholds_of_empty (h : s.parts.magazine = []) (hhigh : s.highOffset < 24) :
    s.judgeThresholds.parts = { s.parts with low := true, high := false } := by
  have hnot : decide (Config.magazineCap - 0 ≤ s.highOffset) = false := by
    have hcap : Config.magazineCap = 24 := rfl
    rw [decide_eq_false_iff_not]
    omega
  rw [judgeThresholds_eq]
  simp only [h, List.length_nil, hnot, Nat.zero_le, decide_true]

/-- The low threshold is latched where it comes to be met (R110). -/
theorem judgeThresholds_magLow (h : s.parts.magazine = []) (hlow : s.parts.low = false) :
    s.judgeThresholds.port.latches[(5 : Fin 17)] = true := by
  unfold State.judgeThresholds
  dsimp only
  rw [h, hlow, if_pos (by simp)]
  simp [State.latch, PortUnit.setLatch, Latch.index]

/-- Nothing waits, or nothing comes for what waits, on an empty magazine. -/
theorem afterWait_of_empty (h : s.parts.magazine = []) (hdoubt : s.parts.doubt = false) (hc : s.work.cycle = none)
    (hw : s.rd.window = none) :
    (s.work.parts ≠ .waiting → s.afterWait = s) ∧
    (s.work.parts = .waiting → s.atWork? = none → s.afterWait = s) ∧
    (∀ z, s.work.parts = .waiting → s.atWork? = some z →
      (z.book.verdict = .good → s.afterWait = s.noPart) ∧ (z.book.verdict = .reject → s.afterWait = s.partsDone)) := by
  have hidle : ¬ (s.work.cycle.isSome = true ∨ s.rd.window.isSome = true) := by simp [hc, hw]
  unfold State.afterWait
  refine ⟨fun hp => ?_, fun hp hz => ?_, fun z hp hz => ⟨fun hv => ?_, fun hv => ?_⟩⟩
  · rw [if_neg hp, judgeHousekeeping_of_empty h]
  · rw [if_pos hp, if_neg hidle, hz]
  · rw [if_pos hp, if_neg hidle, hz]
    dsimp only
    rw [if_neg (by rw [hv]; decide)]
    unfold State.match?
    rw [if_neg (by rw [hdoubt]; decide), matchAt_of_empty _ h]
  · rw [if_pos hp, if_neg hidle, hz]
    exact if_pos hv

end

/-- A latch set stays set while others are set. -/
theorem setLatch_of_set (l : Latch) {k : Fin 17} {p : PortUnit} (h : p.latches[k] = true) :
    (p.setLatch l).latches[k] = true := by
  unfold PortUnit.setLatch
  simp only [Fin.getElem_fin, Vector.getElem_set]
  split
  · rfl
  · exact h

theorem append_latch_of_set (j : JournalKind) (tag : W16) (d : Detail) {k : Fin 17} {p : PortUnit}
    (h : p.latches[k] = true) : (p.append j tag d).latches[k] = true := by
  unfold PortUnit.append
  dsimp only
  split
  · exact h
  · exact setLatch_of_set _ h

@[simp] theorem judgeThresholds_result (s : State) : s.judgeThresholds.port.result = s.port.result := by
  unfold State.judgeThresholds
  dsimp only
  split_ifs <;> rfl

@[simp] theorem judgeThresholds_stamp (s : State) : s.judgeThresholds.port.stamp = s.port.stamp := by
  unfold State.judgeThresholds
  dsimp only
  split_ifs <;> rfl

theorem append_stamp (k : JournalKind) (tag : W16) (d : Detail) (p : PortUnit) :
    (p.append k tag d).stamp = p.stamp := (append_sameSettings k tag d p).2.2.2.1

/-- A change of the own reasons, with a place free, moves no stamp. -/
theorem setOwnStop_stamp (r : Reasons) {s : State} (ha : s.isActive) (hq : s.bus.txq.length < Config.txqCap) :
    (s.setOwnStop r).port.stamp = s.port.stamp := by
  by_cases hr : r = s.mem.ownStop
  · rw [setOwnStop_same r s hr]
  · rw [setOwnStop_of_change ha hq hr]
    exact append_stamp _ _ _ _

/-- The list, doubt and the read window gone (R124). -/
def State.listGone (s : State) : State :=
  { s.openPort.answer .accepted with
    parts := { s.parts with magazine := [], doubt := false }, rd := { s.rd with window := none } }

/-- The magazine cleared, before a waiting record is looked at (R124). -/
def State.emptied (s : State) : State :=
  s.listGone.removeMagOverrun.judgeThresholds.log .magCleared 0 (.value s.parts.magazine.length)

section
variable {s : State}

/-- What the cleared magazine leaves. -/
theorem emptied_spec (ha : s.isActive) (hq : s.bus.txq.length < Config.txqCap) (hhigh : s.highOffset < 24) :
    (s.emptied.params = s.params ∧ s.emptied.zt = s.zt ∧ s.emptied.work = s.work ∧ s.emptied.heat = s.heat ∧
      s.emptied.rd = { s.rd with window := none } ∧
      s.emptied.parts = { s.parts with magazine := [], doubt := false, low := true, high := false } ∧
      s.emptied.mem = { s.mem with ownStop := { s.mem.ownStop with magOverrun := false } } ∧
      s.emptied.bus = if ({ s.mem.ownStop with magOverrun := false } : Reasons) = s.mem.ownStop then s.bus else
        { s.bus with txq := s.bus.txq ++ [⟨if ({ s.mem.ownStop with magOverrun := false } : Reasons).isEmpty then .go
          else .stop { s.mem.ownStop with magOverrun := false }, 0⟩] }) ∧
    s.emptied.port.result = .accepted ∧
    s.emptied.port.journal.getLast? = some ⟨.magCleared, 0, .value s.parts.magazine.length, s.port.stamp⟩ ∧
    (s.parts.low = false → s.emptied.port.latches[(5 : Fin 17)] = true) := by
  have hset := setOwnStop_ownStopSet { s.mem.ownStop with magOverrun := false } (s := s.listGone) ha hq
  have hframe := setOwnStop_frame { s.mem.ownStop with magOverrun := false } (s := s.listGone) ha hq
  have hresult := setOwnStop_result { s.mem.ownStop with magOverrun := false } (s := s.listGone) ha hq
  have hstamp := setOwnStop_stamp { s.mem.ownStop with magOverrun := false } (s := s.listGone) ha hq
  obtain ⟨hmem, hbus, -, -⟩ := hset
  have hempty : s.listGone.removeMagOverrun.parts.magazine = [] := congrArg (fun t : State => t.parts.magazine) hframe
  have hlow : s.listGone.removeMagOverrun.parts = { s.parts with magazine := [], doubt := false } :=
    congrArg State.parts hframe
  have hrd : s.listGone.removeMagOverrun.rd = { s.rd with window := none } := congrArg State.rd hframe
  have hoffset : s.listGone.removeMagOverrun.highOffset = s.highOffset := by
    unfold State.highOffset State.stationParam State.removeMagOverrun
    rw [setOwnStop_params]
    rfl
  have hthresholds := judgeThresholds_of_empty hempty (by rw [hoffset]; exact hhigh)
  have heq := judgeThresholds_eq s.listGone.removeMagOverrun
  unfold State.emptied
  refine ⟨⟨?_, ?_, ?_, ?_, ?_, ?_, ?_, ?_⟩, ?_, ?_, fun h => append_latch_of_set _ _ _
    (judgeThresholds_magLow hempty (by rw [hlow]; exact h))⟩
  · exact (congrArg State.params heq).trans (setOwnStop_params _ _)
  · exact (congrArg State.zt heq).trans (setOwnStop_zt _ _)
  · exact (congrArg State.work heq).trans (setOwnStop_work _ _)
  · exact (congrArg State.heat heq).trans (setOwnStop_heat _ _)
  · exact (congrArg State.rd heq).trans hrd
  · exact hthresholds.trans (by rw [hlow])
  · exact (congrArg State.mem heq).trans hmem
  · exact (congrArg State.bus heq).trans hbus
  · exact (append_result _ _ _ _).trans ((judgeThresholds_result _).trans hresult)
  · have hstamp' : s.listGone.removeMagOverrun.judgeThresholds.port.stamp = s.port.stamp :=
      (judgeThresholds_stamp _).trans hstamp
    rw [← hstamp']
    exact append_journal_getLast? _ _ _ _

theorem magazineClear_of_idle (hm : s.hasMagazine = true) (ha : s.isActive) (hc : s.work.cycle = none)
    (hq : s.bus.txq.length < Config.txqCap) : exec .magazineClear s = .next s.emptied.afterWait := by
  have hon : ¬ (¬ s.hasMagazine = true ∨ ¬ s.isActive) := fun h => h.elim (fun h => h hm) fun h => h ha
  have hactive : s.listGone.removeMagOverrun.isActive := by
    unfold State.isActive
    rw [show s.listGone.removeMagOverrun.mem = _ from (setOwnStop_ownStopSet _ (s := s.listGone) ha hq).1]
    exact ha
  show execMagazineClear s = _
  unfold execMagazineClear
  dsimp only
  rw [if_neg hon, if_neg (by simp [hc])]
  exact congrArg Host.Outcome.next (andThen_of_active (s := s.listGone.removeMagOverrun)
    (fun t => State.afterWait (t.judgeThresholds.log .magCleared 0 (.value s.parts.magazine.length))) hactive)

/-- The record at work gets no part: it is marked and worked (R121, R166). -/
theorem noPart_of_empty (h : s.parts.magazine = []) : s.noPart = { s with
    port := (s.port.setLatch .matchFail).append .matchFail s.workTag .none
    zt.zone := mapFirst (fun y => y.phase == .atWork)
      (fun y => { y with book := y.book.addMark s.noPartMark s.own, phase := .worked }) s.zt.zone
    work := { s.work with parts := .idle, matchIndex := none } } := by
  have hzone := mapFirst_mapFirst (p := fun y : ZoneRecord => y.phase == .atWork)
    (f := ZoneRecord.onBook (BookRecord.addMark s.noPartMark s.own)) (g := fun z => { z with phase := .worked })
    (fun _ h => h) s.zt.zone
  unfold State.noPart
  rw [partsDone_of_empty (by exact h)]
  exact congrArg (fun l : List ZoneRecord => { s with
    port := (s.port.setLatch .matchFail).append .matchFail s.workTag .none
    zt := { s.zt with zone := l }
    work := { s.work with parts := .idle, matchIndex := none } }) hzone

end

/-- What MAGAZINE CLEAR leaves, whatever waits (R124, R110, R97). -/
def State.clearedAs (s t : State) : Prop :=
  t.port.result = .accepted ∧
  t.parts = { s.parts with magazine := [], doubt := false, low := true, high := false } ∧
  t.rd = { s.rd with window := none } ∧
  t.mem.ownStop = { s.mem.ownStop with magOverrun := false } ∧
  (s.mem.ownStop.magOverrun = false → t.bus = s.bus) ∧
  (s.mem.ownStop.magOverrun = true → t.bus.txq = s.bus.txq ++
    [⟨if t.mem.ownStop.isEmpty then .go else .stop t.mem.ownStop, 0⟩]) ∧
  ⟨.magCleared, 0, .value s.parts.magazine.length, s.port.stamp⟩ ∈ t.port.journal ∧
  (s.parts.low = false → t.port.latches[(5 : Fin 17)] = true) ∧
  t.params = s.params ∧ t.heat = s.heat ∧ t.zt.incoming = s.zt.incoming

/-- What MAGAZINE CLEAR does to a record that waits for a part: none comes, or none is needed (R121, R166). -/
def State.waitEndedAs (s t : State) : Prop :=
  (s.work.parts ≠ .waiting → t.zt = s.zt ∧ t.work = s.work) ∧
  (∀ z, s.work.parts = .waiting → s.atWork? = some z → z.book.verdict = .good →
    t.work = { s.work with parts := .idle, matchIndex := none } ∧
    t.zt.zone = mapFirst (fun y => y.phase == .atWork)
      (fun y => { y with
        book := y.book.addMark (if s.role = some .case then .noCase else .noJacket) s.own
        phase := .worked }) s.zt.zone) ∧
  (∀ z, s.work.parts = .waiting → s.atWork? = some z → z.book.verdict = .reject →
    t.work = { s.work with parts := .idle, matchIndex := none } ∧
    t.zt.zone = mapFirst (fun y => y.phase == .atWork) (fun y => { y with phase := .worked }) s.zt.zone)

section
variable {s : State}

theorem emptied_clearedAs (ha : s.isActive) (hq : s.bus.txq.length < Config.txqCap) (hhigh : s.highOffset < 24) :
    s.clearedAs s.emptied := by
  obtain ⟨⟨hparams, hzt, -, hheat, hrd, hparts, hmem, hbus⟩, hresult, hjournal, hlatch⟩ := emptied_spec ha hq hhigh
  have hown : s.emptied.mem.ownStop = { s.mem.ownStop with magOverrun := false } := by rw [hmem]
  refine ⟨hresult, hparts, hrd, hown, fun h => ?_, fun h => ?_, List.mem_of_getLast? hjournal, hlatch, hparams, hheat,
    congrArg ZoneTracker.incoming hzt⟩
  · rw [hbus, if_pos]
    rw [← h]
  · rw [hbus, if_neg, hown]
    intro heq
    rw [← heq] at h
    cases h

/-- What follows a cleared magazine in the zone and in the work leaves it cleared. -/
theorem clearedAs_of_frame {e t : State} (he : s.clearedAs e)
    (ht : t = { e with zt := t.zt, work := t.work, port := t.port }) (hin : t.zt.incoming = e.zt.incoming)
    (hr : t.port.result = e.port.result)
    (hj : ⟨.magCleared, 0, .value s.parts.magazine.length, s.port.stamp⟩ ∈ t.port.journal)
    (hl : e.port.latches[(5 : Fin 17)] = true → t.port.latches[(5 : Fin 17)] = true) : s.clearedAs t := by
  obtain ⟨hresult, hparts, hrd, hown, hquiet, htold, -, hlatch, hparams, hheat, hincoming⟩ := he
  have hmem : t.mem = e.mem := by rw [ht]
  have hbus : t.bus = e.bus := by rw [ht]
  refine ⟨hr.trans hresult, ?_, ?_, ?_, fun h => ?_, fun h => ?_, hj, fun h => hl (hlatch h), ?_, ?_,
    hin.trans hincoming⟩
  · rw [ht, ← hparts]
  · rw [ht, ← hrd]
  · rw [hmem, hown]
  · rw [hbus, hquiet h]
  · rw [hbus, hmem, htold h]
  · rw [ht, ← hparams]
  · rw [ht, ← hheat]

/-- The record that waited got no part (R121). -/
theorem noPart_clears {e : State} (he : s.clearedAs e)
    (hnew : e.port.journal.getLast? = some ⟨.magCleared, 0, .value s.parts.magazine.length, s.port.stamp⟩)
    (hempty : e.parts.magazine = []) : s.clearedAs e.noPart := by
  have ht := noPart_of_empty hempty
  refine clearedAs_of_frame he ?_ ?_ ?_ ?_ fun h => ?_
  · rw [ht]
  · rw [ht]
  · rw [ht]
    exact append_result _ _ _ _
  · rw [ht]
    exact mem_append_of_newest _ _ _ hnew
  · rw [ht]
    exact append_latch_of_set _ _ _ (setLatch_of_set _ h)

/-- The record that waited was rejected: it is worked as it is (R166). -/
theorem partsDone_clears {e : State} (he : s.clearedAs e)
    (hnew : e.port.journal.getLast? = some ⟨.magCleared, 0, .value s.parts.magazine.length, s.port.stamp⟩)
    (hempty : e.parts.magazine = []) : s.clearedAs e.partsDone := by
  have ht := partsDone_of_empty hempty
  refine clearedAs_of_frame he ?_ ?_ ?_ ?_ fun h => ?_
  · rw [ht]; rfl
  · rw [ht]; rfl
  · rw [ht]; rfl
  · rw [ht]
    exact List.mem_of_getLast? hnew
  · rw [ht]
    exact h

theorem waitEndedAs_of_same {t : State} (hzt : t.zt = s.zt) (hwork : t.work = s.work)
    (hw : s.work.parts = .waiting → s.atWork? = none) : s.waitEndedAs t := by
  refine ⟨fun _ => ⟨hzt, hwork⟩, fun z hp hz => ?_, fun z hp hz => ?_⟩
  all_goals
    rw [hw hp] at hz
    cases hz

theorem noPart_waitEndedAs {e : State} {z : ZoneRecord} (hparams : e.params = s.params) (hzt : e.zt = s.zt)
    (hwork : e.work = s.work) (hempty : e.parts.magazine = []) (hp : s.work.parts = .waiting)
    (hz : s.atWork? = some z) (hv : z.book.verdict = .good) : s.waitEndedAs e.noPart := by
  have ht := noPart_of_empty hempty
  have hrole : e.role = s.role := by
    unfold State.role
    rw [hparams]
  have hown : e.own = s.own := by
    unfold State.own
    rw [hparams]
  refine ⟨fun hne => absurd hp hne, fun y _ _ _ => ?_, fun y _ hy hbad => ?_⟩
  · rw [ht]
    exact ⟨by rw [hwork], by rw [hzt, State.noPartMark, hrole, hown]⟩
  · obtain rfl := Option.some.inj (hz.symm.trans hy)
    rw [hv] at hbad
    cases hbad

theorem partsDone_waitEndedAs {e : State} {z : ZoneRecord} (hzt : e.zt = s.zt)
    (hwork : e.work = s.work) (hempty : e.parts.magazine = []) (hp : s.work.parts = .waiting)
    (hz : s.atWork? = some z) (hv : z.book.verdict = .reject) : s.waitEndedAs e.partsDone := by
  have ht := partsDone_of_empty hempty
  refine ⟨fun hne => absurd hp hne, fun y _ hy hbad => ?_, fun y _ _ _ => ?_⟩
  · obtain rfl := Option.some.inj (hz.symm.trans hy)
    rw [hv] at hbad
    cases hbad
  · rw [ht]
    exact ⟨congrArg (fun w : WorkSequencer => { w with parts := .idle, matchIndex := none }) hwork,
      congrArg (fun z : ZoneTracker => mapFirst _ _ z.zone) hzt⟩

/-- The wait after a cleared magazine. -/
theorem emptied_afterWait (ha : s.isActive) (hc : s.work.cycle = none) (hq : s.bus.txq.length < Config.txqCap)
    (hhigh : s.highOffset < 24) : s.clearedAs s.emptied.afterWait ∧ s.waitEndedAs s.emptied.afterWait := by
  obtain ⟨⟨hparams, hzt, hwork, -, hrd, hparts, -, -⟩, -, hnew, -⟩ := emptied_spec ha hq hhigh
  have he := emptied_clearedAs ha hq hhigh
  have hempty : s.emptied.parts.magazine = [] := by rw [hparts]
  have hatWork : s.emptied.atWork? = s.atWork? := by
    unfold State.atWork?
    rw [hzt]
  obtain ⟨hother, hnone, hsome⟩ := afterWait_of_empty (s := s.emptied) hempty (by rw [hparts])
    (by rw [hwork, hc]) (by rw [hrd])
  rw [hwork] at hother hnone hsome
  rw [hatWork] at hnone hsome
  by_cases hp : s.work.parts = .waiting
  · cases hz : s.atWork? with
    | none =>
      rw [hnone hp hz]
      exact ⟨he, waitEndedAs_of_same hzt hwork fun _ => hz⟩
    | some z =>
      obtain ⟨hgood, hreject⟩ := hsome z hp hz
      cases hv : z.book.verdict with
      | good =>
        rw [hgood hv]
        exact ⟨noPart_clears he hnew hempty, noPart_waitEndedAs hparams hzt hwork hempty hp hz hv⟩
      | reject =>
        rw [hreject hv]
        exact ⟨partsDone_clears he hnew hempty, partsDone_waitEndedAs hzt hwork hempty hp hz hv⟩
  · rw [hother hp]
    exact ⟨he, waitEndedAs_of_same hzt hwork fun h => absurd h hp⟩

end

/-- Settles O16: MAGAZINE CLEAR refused, and taken with or without a record that waits. -/
theorem magazineClearEmptiesTheList : Obligations.MagazineClearEmptiesTheList := by
  intro s
  simp only [← hasMagazine_iff]
  refine ⟨fun h => ?_, fun hm ha => ⟨fun hc => ?_, fun hc hq hhigh => ?_⟩⟩
  · refine congrArg Host.Outcome.next (if_pos ?_)
    exact h.imp id not_isActive_of_config_or_halted
  · have hon : ¬ (¬ s.hasMagazine = true ∨ ¬ s.isActive) := fun h => h.elim (fun h => h hm) fun h => h ha
    exact congrArg Host.Outcome.next ((if_neg hon).trans (if_pos (Option.isSome_iff_ne_none.mpr hc)))
  · obtain ⟨⟨h1, h2, h3, h4, h5, h6, h7, h8, h9, h10, h11⟩, h12, h13, h14⟩ := emptied_afterWait ha hc hq hhigh
    exact ⟨_, magazineClear_of_idle hm ha hc hq, h1, h2, h3, h4, h5, h6, h7, h8, h9, h10, h11, h12, h13, h14⟩

end Sys2Proof.Machine

namespace Sys2Proof.Machine

/-! ### The journal, the latches and the marks (O21) -/

/-- Settles O21: by the branches of `append` and `addMark`. -/
theorem journalAndMarksFollowTheirRules : Obligations.JournalAndMarksFollowTheirRules := by
  refine ⟨fun k tag d p => ⟨fun h => if_pos h, fun h => ?_⟩, fun l p => rfl, fun k p b => ⟨fun h => ?_, fun h => ?_⟩⟩
  · have hfull : ¬ p.journal.length < Config.journalCap := by
      rw [h]
      decide
    rw [← List.drop_one]
    exact if_neg hfull
  · exact congrArg (fun l => { b with marks := l, verdict := .reject, openTime := none }) (if_pos h)
  · exact congrArg (fun l => { b with marks := l, verdict := .reject, openTime := none }) (if_neg (Nat.not_lt.mpr h))

/-! ### Failures of frames (O20) -/

section
variable {s : State}

theorem failFrame_of_entry {place : Nat} {e : TxEntry} (d : Drive) (he : s.bus.txq[place]? = some e) :
    s.failFrame d place = s.failSend d place e := by
  unfold State.failFrame
  rw [he]

/-- A failure below the eighth is counted and journalled (R25). -/
theorem failSend_of_below (d : Drive) (place : Nat) {e : TxEntry} (h : e.failures + 1 < 8) :
    s.failSend d place e = { s with
      bus.frame := .none, bus.quiet := 0, bus.drive := d
      bus.txq := s.bus.txq.set place { e with failures := e.failures + 1 }
      port := s.port.append .sendFailed 0 (.pair e.notice.kind.detailCode (e.failures + 1)) } :=
  if_neg (Nat.not_le.mpr h)

/-- The eighth failure halts the station (R25). -/
theorem failSend_of_eighth (d : Drive) (place : Nat) {e : TxEntry} (ha : s.isActive) (h : 8 ≤ e.failures + 1) :
    s.failSend d place e = { s with
      mem.station := .halted, mem.haltReason := .busFault
      bus := { attached := false, txq := [], frame := .none, drive := .none, quiet := 0 }
      rd := { slot := none, window := none, assembly := [] }
      parts.magazine := noneWaiting s.parts.magazine
      port := (s.port.append .sendFailed 0 (.pair e.notice.kind.detailCode (e.failures + 1))).append .halted 0
        (.value 1) } :=
  (if_pos h).trans (if_pos ha)

/-- The frame failed is one this station sends, or one it loses where it reads back another level than it drove. -/
theorem exec_of_failed {c : Instr} {place : Nat} {kind : NoticeKind} {payload : List Byte}
    (hc : c = .readbackMismatch ∨ ∃ cause, c = .flaggedFrame cause) (hattached : s.bus.attached = true)
    (hf : s.bus.frame = .sending place kind payload ∨
      (c = .readbackMismatch ∧ ∃ r, s.bus.frame = .losing place kind r)) :
    exec c s = .next (s.failFrame (if c = .readbackMismatch then .abortRun else .none) place) := by
  rcases hc with rfl | ⟨cause, rfl⟩
  · show execReadbackMismatch s = _
    unfold execReadbackMismatch
    rcases hf with hf | ⟨-, r, hf⟩ <;> rw [hf] <;> rfl
  · have hf : s.bus.frame = .sending place kind payload := hf.resolve_right fun h => by cases h.1
    show execFlaggedFrame cause s = _
    unfold execFlaggedFrame
    rw [if_neg (by simp [hattached]), hf]
    rfl

theorem append_stamp_halted (p : PortUnit) (k : JournalKind) (d : Detail) :
    ((p.append k 0 d).append .halted 0 (.value 1)).journal.getLast? = some ⟨.halted, 0, .value 1, p.stamp⟩ := by
  rw [append_journal_getLast?, append_stamp]

theorem received_iff (f : Frame) :
    f.received = true ↔ f = .receiving ∨ ∃ place kind r, f = .losing place kind r := by
  cases f <;> simp [Frame.received]

/-- A frame whose start was not taken does not concern the station (R17, R20). -/
theorem faults_of_no_frame (h : s.bus.attached = false ∨ s.bus.frame = .none) (cause : BreakCause) (flag : FlagCause) :
    exec (.structureError cause) s = .next s ∧ (s.bus.frame = .none → exec .readbackMismatch s = .next s) ∧
    exec (.flaggedFrame flag) s = .next s := by
  refine ⟨congrArg Host.Outcome.next (if_neg ?_), fun hf => ?_, ?_⟩
  · rintro ⟨hattached, hreceived⟩
    rcases h with h | h
    · rw [h] at hattached
      cases hattached
    · exact frame_ne_none hreceived h
  · show execReadbackMismatch s = _
    unfold execReadbackMismatch
    rw [hf]
  · show execFlaggedFrame flag s = _
    unfold execFlaggedFrame
    rcases h with h | h
    · rw [if_pos (by simp [h])]
    · rw [h]
      exact congrArg Host.Outcome.next (ite_self s)

/-- A receiver drops a flagged frame (R23, R24). -/
theorem flagged_of_received (hattached : s.bus.attached = true) (hr : s.bus.frame.received = true) (cause : FlagCause) :
    exec (.flaggedFrame cause) s = .next (match cause with
      | .check sender => (s.endFrame .flag).badFrame 1 sender
      | .kind sender => (s.endFrame .flag).badFrame 3 sender
      | .byOther => s.endFrame .none) := by
  show execFlaggedFrame cause s = _
  unfold execFlaggedFrame
  rw [if_neg (by simp [hattached])]
  rcases (received_iff _).mp hr with hf | ⟨place, kind, r, hf⟩ <;> rw [hf] <;> rfl

theorem structureError_of_received (hattached : s.bus.attached = true) (hr : s.bus.frame.received = true)
    (cause : BreakCause) : exec (.structureError cause) s = .next (match cause with
      | .insertion => s.endFrame .abortRun
      | .length sender => (s.endFrame .abortRun).badFrame 2 sender) :=
  congrArg Host.Outcome.next (if_pos ⟨hattached, hr⟩)

/-- Beside a frame of its own, the levels driven are those of the drive (R22, R23). -/
theorem drivenLevels_of_drive (hs : ∀ place kind payload, s.bus.frame ≠ .sending place kind payload)
    (hl : ∀ place kind r, s.bus.frame ≠ .losing place kind r) :
    s.drivenLevels = match s.bus.drive with
      | .abortRun => List.replicate 6 false
      | .flag => [false]
      | .none => [] := by
  unfold State.drivenLevels
  cases hf : s.bus.frame with
  | sending place kind payload => exact absurd hf (hs _ _ _)
  | losing place kind r => exact absurd hf (hl _ _ _)
  | none => cases s.bus.drive <;> rfl
  | receiving => cases s.bus.drive <;> rfl

end

/-- Settles O20: failures of a frame sent, frames dropped, and what is driven after them. -/
theorem faultyFramesAreCountedOrDropped : Obligations.FaultyFramesAreCountedOrDropped := by
  refine ⟨fun c s place kind payload e hc hattached ha hf he => ⟨fun h => ?_, fun h => ?_⟩,
    fun p s => ⟨fun h => ?_, ?_⟩, fun s hs hl => ?_⟩
  · rw [exec_of_failed hc hattached hf, failFrame_of_entry _ he, failSend_of_below _ _ h]
    exact ⟨_, rfl, append_journal_getLast? _ _ _ _, append_result _ _ _ _⟩
  · rw [exec_of_failed hc hattached hf, failFrame_of_entry _ he, failSend_of_eighth _ _ ha h]
    exact ⟨_, rfl, rfl, rfl, rfl, rfl, rfl, rfl, rfl, rfl, append_stamp_halted _ _ _⟩
  · exact faults_of_no_frame h
  · intro hattached hf
    have hr := (received_iff _).mpr hf
    exact ⟨structureError_of_received hattached hr _, structureError_of_received hattached hr _,
      flagged_of_received hattached hr _, flagged_of_received hattached hr _, flagged_of_received hattached hr _⟩
  · have hdriven := drivenLevels_of_drive hs hl
    refine ⟨fun h => ?_, fun h => ?_, fun h => ?_⟩ <;> rw [hdriven, h]

end Sys2Proof.Machine

namespace Sys2Proof.Machine

/-! ### Numbers in bits, most significant first (R18) -/

theorem bitsNat_foldl (n : Nat) (l : List Bool) :
    l.foldl (fun n b => 2 * n + b.toNat) n = n * 2 ^ l.length + bitsNat l := by
  induction l generalizing n with
  | nil => simp [bitsNat]
  | cons b l ih =>
    rw [List.foldl_cons, ih, show bitsNat (b :: l) = (2 * 0 + b.toNat) * 2 ^ l.length + bitsNat l from ih _,
      List.length_cons, Nat.pow_succ]
    ring

theorem bitsNat_cons (b : Bool) (l : List Bool) : bitsNat (b :: l) = b.toNat * 2 ^ l.length + bitsNat l := by
  show l.foldl _ (2 * 0 + b.toNat) = _
  rw [bitsNat_foldl, Nat.mul_zero, Nat.zero_add]

theorem bitsNat_append (a b : List Bool) : bitsNat (a ++ b) = bitsNat a * 2 ^ b.length + bitsNat b := by
  show (a ++ b).foldl _ 0 = _
  rw [List.foldl_append, bitsNat_foldl]
  rfl

theorem bitsNat_lt (l : List Bool) : bitsNat l < 2 ^ l.length := by
  induction l with
  | nil => exact Nat.one_pos
  | cons b l ih =>
    rw [bitsNat_cons, List.length_cons, Nat.pow_succ]
    cases b <;> simp <;> omega

@[simp] theorem natBits_length (w n : Nat) : (natBits w n).length = w := by
  unfold natBits
  rw [List.length_map, List.length_range]

theorem natBits_succ (w n : Nat) : natBits (w + 1) n = n.testBit w :: natBits w n := by
  unfold natBits
  rw [List.range_succ_eq_map, List.map_cons, List.map_map]
  refine congrArg₂ List.cons rfl (List.map_congr_left fun i _ => ?_)
  show n.testBit (w + 1 - 1 - (i + 1)) = n.testBit (w - 1 - i)
  congr 1
  omega

theorem bitsNat_natBits (w n : Nat) : bitsNat (natBits w n) = n % 2 ^ w := by
  induction w with
  | zero => simp [natBits, bitsNat, Nat.mod_one]
  | succ w ih =>
    have hbit : (n.testBit w).toNat = n / 2 ^ w % 2 := by
      rw [Nat.testBit_eq_decide_div_mod_eq]
      rcases Nat.mod_two_eq_zero_or_one (n / 2 ^ w) with h | h <;> rw [h] <;> rfl
    rw [natBits_succ, bitsNat_cons, natBits_length, ih, hbit, Nat.mod_pow_succ, Nat.add_comm, Nat.mul_comm]

theorem bitsNat_natBits_of_lt {w n : Nat} (h : n < 2 ^ w) : bitsNat (natBits w n) = n := by
  rw [bitsNat_natBits, Nat.mod_eq_of_lt h]

/-- Of two bit lists of one length the one with the higher number has a 1 where the two first differ. -/
theorem differ_of_bitsNat_lt {a b : List Bool} (hlen : a.length = b.length) (h : bitsNat b < bitsNat a) :
    ∃ p x y, a = p ++ true :: x ∧ b = p ++ false :: y := by
  induction a generalizing b with
  | nil =>
    obtain rfl := List.eq_nil_of_length_eq_zero hlen.symm
    exact absurd h (Nat.lt_irrefl _)
  | cons c a ih =>
    obtain _ | ⟨d, b⟩ := b
    · cases hlen
    have hrest : a.length = b.length := Nat.succ.inj hlen
    have ha := bitsNat_lt a
    rw [bitsNat_cons, bitsNat_cons, hrest] at h
    rw [hrest] at ha
    by_cases hcd : c = d
    · subst hcd
      obtain ⟨p, x, y, rfl, rfl⟩ := ih hrest (Nat.lt_of_add_lt_add_left h)
      exact ⟨c :: p, x, y, rfl, rfl⟩
    · cases c with
      | true =>
        obtain rfl : d = false := by simpa using hcd
        exact ⟨[], a, b, rfl, rfl⟩
      | false =>
        obtain rfl : d = true := by simpa using hcd
        simp only [Bool.toNat_true, Bool.toNat_false] at h
        omega

/-! ### Arbitration (R21) -/

theorem insertFrom_head (run : Option (Bool × Nat)) (b : Bool) (l : List Bool) :
    ∃ l', insertFrom run (b :: l) = b :: l' := by
  unfold insertFrom
  split
  · exact ⟨_, rfl⟩
  · exact ⟨_, rfl⟩

/-- Inserted bits keep the first difference of two lists of frame bits. -/
theorem insertFrom_differ (run : Option (Bool × Nat)) (p x y : List Bool) :
    ∃ q x' y', insertFrom run (p ++ true :: x) = q ++ true :: x' ∧ insertFrom run (p ++ false :: y) = q ++ false :: y' := by
  induction p generalizing run with
  | nil =>
    obtain ⟨x', hx⟩ := insertFrom_head run true x
    obtain ⟨y', hy⟩ := insertFrom_head run false y
    exact ⟨[], x', y', hx, hy⟩
  | cons b p ih =>
    simp only [List.cons_append, insertFrom]
    split
    · obtain ⟨q, x', y', hx, hy⟩ := ih none
      exact ⟨b :: (!b) :: q, x', y', by rw [hx]; rfl, by rw [hy]; rfl⟩
    · obtain ⟨q, x', y', hx, hy⟩ := ih (some (b, runAfter run b))
      exact ⟨b :: q, x', y', by rw [hx]; rfl, by rw [hy]; rfl⟩

theorem agreeing_append (q x y : List Bool) : agreeing (q ++ true :: x) (q ++ false :: y) = q.length := by
  induction q with
  | nil => rfl
  | cons b q ih =>
    rw [List.cons_append, List.cons_append, List.length_cons, ← ih]
    exact if_pos rfl

theorem arbitration_bits {cls : Nat} (h : cls < 4) (p : Pos) :
    bitsNat (false :: natBits 2 cls ++ natBits 4 p.val) = cls * 16 + p.val := by
  rw [bitsNat_append, bitsNat_cons, bitsNat_natBits_of_lt h, bitsNat_natBits_of_lt p.isLt, natBits_length, natBits_length,
    Bool.toNat_false, Nat.zero_mul, Nat.zero_add]
  rfl

/-- A sender that loses drives its levels up to its losing bit (R21). -/
theorem losingLevels_spec {cls : Nat} (hcls : cls < 4) (p : Pos) {r : Rival}
    (h : r.cls.toNat * 16 + r.sender.val < cls * 16 + p.val) :
    ∃ n, losingLevels cls p r = (arbitrationLevels cls p).take (n + 1) ∧
      (arbitrationLevels cls p).take n = (arbitrationLevels r.cls.toNat r.sender).take n ∧
      (arbitrationLevels cls p)[n]? = some true ∧ (arbitrationLevels r.cls.toNat r.sender)[n]? = some false := by
  rw [← arbitration_bits hcls, ← arbitration_bits r.cls.isLt] at h
  obtain ⟨f, x, y, hown, hother⟩ := differ_of_bitsNat_lt (by simp) h
  obtain ⟨q, x', y', hq, hr⟩ := insertFrom_differ none f x y
  have hown : arbitrationLevels cls p = q ++ true :: x' := (congrArg insertBits hown).trans hq
  have hother : arbitrationLevels r.cls.toNat r.sender = q ++ false :: y' := (congrArg insertBits hother).trans hr
  refine ⟨q.length, ?_, ?_, ?_, ?_⟩
  · unfold losingLevels
    dsimp only
    rw [hown, hother, agreeing_append]
  · rw [hown, hother, List.take_left, List.take_left]
  · rw [hown]
    simp
  · rw [hother]
    simp

/-! ### The first notice that may be sent (R28, R29) -/

theorem cls_lt (k : NoticeKind) : k.cls < 4 := by
  cases k <;> decide

/-- The entry at `k` is the oldest of the lowest class. -/
def oldestOfLowest (q : List TxEntry) (k : Nat) (e : TxEntry) : Prop :=
  q[k]? = some e ∧ ∀ j e', q[j]? = some e' → e.notice.kind.cls < e'.notice.kind.cls ∨
    (e.notice.kind.cls = e'.notice.kind.cls ∧ k ≤ j)

theorem findIdx?_eq_some_iff_getElem? {α : Type} {p : α → Bool} {l : List α} {k : Nat} :
    l.findIdx? p = some k ↔ (∃ x, l[k]? = some x ∧ p x = true) ∧ ∀ j x, j < k → l[j]? = some x → p x = false := by
  rw [List.findIdx?_eq_some_iff_getElem]
  constructor
  · rintro ⟨hk, hp, hbefore⟩
    refine ⟨⟨_, List.getElem?_eq_getElem hk, hp⟩, fun j x hj hx => ?_⟩
    obtain ⟨hlt, rfl⟩ := List.getElem?_eq_some_iff.mp hx
    exact Bool.eq_false_iff.mpr (hbefore j hj)
  · rintro ⟨⟨x, hx, hp⟩, hbefore⟩
    obtain ⟨hlt, rfl⟩ := List.getElem?_eq_some_iff.mp hx
    refine ⟨hlt, hp, fun j hj => ?_⟩
    rw [hbefore j _ hj (List.getElem?_eq_getElem _)]
    decide

/-- With no lower class in the queue the oldest of a class is the oldest of the lowest. -/
theorem oldestOfLowest_of_find {q : List TxEntry} {c k : Nat} (hlow : ∀ e ∈ q, c ≤ e.notice.kind.cls)
    (h : q.findIdx? (TxEntry.ofClass c) = some k) : ∃ e, oldestOfLowest q k e := by
  obtain ⟨⟨e, he, hc⟩, hbefore⟩ := findIdx?_eq_some_iff_getElem?.mp h
  have hc : e.notice.kind.cls = c := eq_of_beq hc
  refine ⟨e, he, fun j e' he' => ?_⟩
  rcases Nat.lt_or_eq_of_le (hlow e' (List.mem_of_getElem? he')) with hlt | heq
  · exact .inl (hc ▸ hlt)
  · refine .inr ⟨hc.trans heq, Nat.le_of_not_lt fun hj => ?_⟩
    have := hbefore j e' hj he'
    rw [TxEntry.ofClass, ← heq, beq_self_eq_true] at this
    cases this

theorem cls_ne_of_not_found {q : List TxEntry} {c : Nat} (hlow : ∀ e ∈ q, c ≤ e.notice.kind.cls)
    (h : q.findIdx? (TxEntry.ofClass c) = none) : ∀ e ∈ q, c + 1 ≤ e.notice.kind.cls := fun e he => by
  have hne : e.notice.kind.cls ≠ c := ne_of_beq_false (List.findIdx?_eq_none_iff.mp h e he)
  exact Nat.lt_of_le_of_ne (hlow e he) hne.symm

/-- The places searched class by class. -/
def findByClass (q : List TxEntry) : Option Nat :=
  q.findIdx? (TxEntry.ofClass 0) <|> q.findIdx? (TxEntry.ofClass 1) <|> q.findIdx? (TxEntry.ofClass 2) <|>
    q.findIdx? (TxEntry.ofClass 3)

/-- The class searches in turn find the oldest of the lowest class, and find nothing in an empty queue alone. -/
theorem findByClass_spec (q : List TxEntry) :
    (∃ k e, findByClass q = some k ∧ oldestOfLowest q k e) ∨ (findByClass q = none ∧ q = []) := by
  unfold findByClass
  have h0 : ∀ e ∈ q, 0 ≤ e.notice.kind.cls := fun _ _ => Nat.zero_le _
  cases hc0 : q.findIdx? (TxEntry.ofClass 0) with
  | some k => exact .inl ⟨k, _, rfl, (oldestOfLowest_of_find h0 hc0).choose_spec⟩
  | none =>
    have h1 := cls_ne_of_not_found h0 hc0
    cases hc1 : q.findIdx? (TxEntry.ofClass 1) with
    | some k => exact .inl ⟨k, _, rfl, (oldestOfLowest_of_find h1 hc1).choose_spec⟩
    | none =>
      have h2 := cls_ne_of_not_found h1 hc1
      cases hc2 : q.findIdx? (TxEntry.ofClass 2) with
      | some k => exact .inl ⟨k, _, rfl, (oldestOfLowest_of_find h2 hc2).choose_spec⟩
      | none =>
        have h3 := cls_ne_of_not_found h2 hc2
        cases hc3 : q.findIdx? (TxEntry.ofClass 3) with
        | some k => exact .inl ⟨k, _, rfl, (oldestOfLowest_of_find h3 hc3).choose_spec⟩
        | none =>
          have h4 := cls_ne_of_not_found h3 hc3
          exact .inr ⟨rfl, List.eq_nil_iff_forall_not_mem.mpr fun e he =>
            absurd (cls_lt e.notice.kind) (Nat.not_lt.mpr (h4 e he))⟩

theorem oldestOfLowest_unique {q : List TxEntry} {k k' : Nat} {e e' : TxEntry} (h : oldestOfLowest q k e)
    (h' : oldestOfLowest q k' e') : k = k' := by
  have hle := h.2 k' e' h'.1
  have hge := h'.2 k e h.1
  omega

theorem awaitingJoin_iff (s : State) :
    s.awaitingJoin = true ↔ s.mem.station = .joining ∧ s.mem.joinWindow = none := by
  unfold State.awaitingJoin
  simp only [Bool.and_eq_true, beq_iff_eq, Option.isNone_iff_eq_none]

theorem findByClass_eq_some_iff (q : List TxEntry) (k : Nat) : findByClass q = some k ↔ ∃ e, oldestOfLowest q k e := by
  rcases findByClass_spec q with ⟨k', e', hfind, he'⟩ | ⟨hfind, rfl⟩
  · rw [hfind, Option.some_inj]
    constructor
    · rintro rfl
      exact ⟨e', he'⟩
    · rintro ⟨e, he⟩
      exact oldestOfLowest_unique he' he
  · rw [hfind]
    constructor
    · intro h
      cases h
    · rintro ⟨e, he, -⟩
      cases he

/-- The place found is the place of the first notice that may be sent. -/
theorem eligible_eq_some_iff (s : State) (k : Nat) : s.eligible = some k ↔ ∃ e, firstToSend s k e := by
  unfold State.eligible firstToSend
  by_cases h : s.mem.station = .joining ∧ s.mem.joinWindow = none
  · simp only [(awaitingJoin_iff s).mpr h, if_true, if_pos h]
    rw [findIdx?_eq_some_iff_getElem?]
    simp only [beq_iff_eq, beq_eq_false_iff_ne, ← exists_and_right, and_assoc]
  · simp only [mt (awaitingJoin_iff s).mp h, if_neg h]
    exact findByClass_eq_some_iff s.bus.txq k

theorem toSend_of_first {s : State} {k : Nat} {e : TxEntry} (h : firstToSend s k e) : s.toSend = some (k, e.notice) := by
  unfold State.toSend
  rw [(eligible_eq_some_iff s k).mpr ⟨e, h⟩, Option.bind_some, h.1]
  rfl

theorem toSend_of_no_first {s : State} (h : ∀ k e, ¬ firstToSend s k e) : s.toSend = none := by
  have hnone : s.eligible = none := Option.eq_none_iff_forall_ne_some.mpr fun k hk => by
    obtain ⟨e, he⟩ := (eligible_eq_some_iff s k).mp hk
    exact h k e he
  unfold State.toSend
  rw [hnone]
  rfl

/-! ### FRAME START (O19) -/

section
variable {s : State} {rival : Option Rival}

theorem frameStart_of_busy (n : Nat) (h : s.bus.attached = false ∨ s.bus.frame ≠ .none) :
    exec (.frameStart rival n) s = .next s := by
  refine congrArg Host.Outcome.next (if_pos (h.imp (fun h => ?_) id))
  rw [h]
  decide

theorem frameStart_of_free {n : Nat} (ha : s.bus.attached = true) (hf : s.bus.frame = .none) :
    exec (.frameStart rival n) s = .next (if s.bus.quietAfter n < 11 then
        { s with bus.quiet := if rival.isSome then 0 else s.bus.quietAfter n, bus.drive := .none }
      else State.startFrame rival { s with bus.quiet := s.bus.quietAfter n, bus.drive := .none }) := by
  refine congrArg Host.Outcome.next (if_neg ?_)
  rw [ha, hf]
  simp

/-- A station's contents do not depend on its count of recessive bit times nor on what it drives. -/
theorem startFrame_of_first {k : Nat} {e : TxEntry} (q : Nat) (h : firstToSend s k e) :
    State.startFrame rival { s with bus.quiet := q, bus.drive := .none } =
      State.beginFrame k e.notice rival { s with bus.quiet := 0, bus.drive := .none } := by
  have hsend : State.toSend { s with bus.quiet := q, bus.drive := .none } = some (k, e.notice) := toSend_of_first h
  unfold State.startFrame
  rw [hsend]

theorem startFrame_of_no_first (q : Nat) (h : ∀ k e, ¬ firstToSend s k e) :
    State.startFrame rival { s with bus.quiet := q, bus.drive := .none } =
      if rival.isSome then { s with bus.frame := .receiving, bus.quiet := 0, bus.drive := .none }
      else { s with bus.quiet := q, bus.drive := .none } := by
  have hsend : State.toSend { s with bus.quiet := q, bus.drive := .none } = none := toSend_of_no_first h
  unfold State.startFrame
  rw [hsend]

/-- The frame begun is sent, or is lost to a rival of a lower arbitration field (R21). -/
theorem beginFrame_eq (k : Nat) (n : Notice) : State.beginFrame k n rival s = { s with
    bus.frame := (match rival with
      | none => .sending k n.kind (s.payload n)
      | some r => if r.cls.toNat * 16 + r.sender.val < n.kind.cls * 16 + s.own.val then .losing k n.kind r
        else .sending k n.kind (s.payload n))
    zt.announced := if n.kind = .beacon then some s.zt.roomOpen else s.zt.announced } := by
  unfold State.beginFrame
  cases rival with
  | none => split_ifs <;> rfl
  | some r =>
    by_cases hr : r.cls.toNat * 16 + r.sender.val < n.kind.cls * 16 + s.own.val
    · have hwins : (some r).filter (rivalWins n.kind.cls s.own) = some r :=
        if_pos (show rivalWins n.kind.cls s.own r = true from decide_eq_true hr)
      dsimp only
      rw [hwins, if_pos hr]
      split_ifs <;> rfl
    · have hwins : (some r).filter (rivalWins n.kind.cls s.own) = none :=
        if_neg (show ¬ rivalWins n.kind.cls s.own r = true from fun h => hr (of_decide_eq_true h))
      dsimp only
      rw [hwins, if_neg hr]
      split_ifs <;> rfl

end

/-- Settles O19: by whether a start bit may be taken, and by the first notice to send. -/
theorem frameStartSendsTheFirstEligible : Obligations.FrameStartSendsTheFirstEligible := by
  refine fun n rival s => ⟨fun p b ran => ?_, frameStart_of_busy n, fun ha hf => ⟨fun h => ?_, fun h => ⟨fun k e he => ?_,
    fun hno => ?_⟩⟩, fun place kind r hf h => ?_⟩
  · refine congrArg (fun t => byteOfPos p :: recordImage b t) (Option.map_congr fun ds _ => ?_)
    by_cases hran : 0 < ran ∧ ran < 100
    · rw [if_neg (by omega), if_pos hran]
    · rw [if_pos (by omega), if_neg hran]
  · have hq : s.bus.quietAfter n = s.bus.quiet + n := Nat.min_eq_right (Nat.le_of_lt h)
    rw [frameStart_of_free ha hf, hq, if_pos h]
    cases rival <;> rfl
  · have hq : s.bus.quietAfter n = 11 := Nat.min_eq_left h
    rw [frameStart_of_free ha hf, hq, if_neg (by decide), startFrame_of_first _ he, beginFrame_eq]
    rfl
  · have hq : s.bus.quietAfter n = 11 := Nat.min_eq_left h
    rw [frameStart_of_free ha hf, hq, if_neg (by decide), startFrame_of_no_first _ hno]
    cases rival with
    | none =>
      rw [← hf]
      rfl
    | some r => rfl
  · have hdriven : s.drivenLevels = losingLevels kind.cls s.own r := by
      unfold State.drivenLevels
      rw [hf]
    dsimp only
    rw [hdriven]
    exact losingLevels_spec (cls_lt kind) s.own h

end Sys2Proof.Machine

namespace Sys2Proof.Machine

/-! ### Inserted bits (O22) -/

/-- The run counted while bits are inserted: none, or one to three equal levels (R19). -/
def openRun : Option (Bool × Nat) → Prop
  | none => True
  | some (_, n) => 1 ≤ n ∧ n ≤ 3

theorem openRun_after {run : Option (Bool × Nat)} (h : openRun run) {b : Bool} (hb : runAfter run b ≠ 4) :
    openRun (some (b, runAfter run b)) := by
  unfold openRun runAfter at *
  cases run with
  | none => exact (by decide : 1 ≤ 1 ∧ 1 ≤ 3)
  | some r =>
    dsimp only at h hb ⊢
    split_ifs at hb ⊢ <;> omega

theorem removeFrom_cons {run : Option (Bool × Nat)} (h : openRun run) (b : Bool) (l : List Bool) :
    removeFrom run (b :: l) =
      (b :: (removeFrom (some (b, runAfter run b)) l).1, (removeFrom (some (b, runAfter run b)) l).2) := by
  unfold openRun at h
  rw [removeFrom]
  rintro level rfl
  exact absurd h.2 (by decide)

/-- A receiver removes what the sender inserted, from any point of a run on. -/
theorem removeFrom_insertFrom {run : Option (Bool × Nat)} (h : openRun run) (bits : List Bool) :
    removeFrom run (insertFrom run bits) = (bits, false) := by
  induction bits generalizing run with
  | nil =>
    cases run <;> rfl
  | cons b rest ih =>
    rw [insertFrom]
    split
    next h4 =>
      have hinserted : removeFrom (some (b, 4)) ((!b) :: insertFrom none rest) = removeFrom none (insertFrom none rest) := by
        cases b <;> rfl
      rw [removeFrom_cons h, h4, hinserted, ih (run := none) trivial]
    next h4 => rw [removeFrom_cons h, ih (openRun_after h h4)]

/-- The length of the run counted. -/
def runLength : Option (Bool × Nat) → Nat
  | none => 0
  | some (_, n) => n

theorem runAfter_le (run : Option (Bool × Nat)) (b : Bool) : runAfter run b ≤ runLength run + 1 := by
  unfold runAfter runLength
  cases run with
  | none => exact Nat.le_refl _
  | some r =>
    dsimp only
    split_ifs <;> omega

/-- One bit at most is inserted for each four, the run before them counted in (R19). -/
theorem insertFrom_length_le (run : Option (Bool × Nat)) (bits : List Bool) :
    (insertFrom run bits).length ≤ bits.length + (bits.length + runLength run) / 4 := by
  induction bits generalizing run with
  | nil => exact Nat.zero_le _
  | cons b rest ih =>
    have hrun := runAfter_le run b
    rw [insertFrom]
    split
    next h4 =>
      have hrest := ih none
      rw [show runLength none = 0 from rfl] at hrest
      simp only [List.length_cons]
      omega
    next h4 =>
      have hrest := ih (some (b, runAfter run b))
      rw [show runLength (some (b, runAfter run b)) = runAfter run b from rfl] at hrest
      simp only [List.length_cons]
      omega

theorem insertFrom_length_ge (run : Option (Bool × Nat)) (bits : List Bool) :
    bits.length ≤ (insertFrom run bits).length := by
  induction bits generalizing run with
  | nil => exact Nat.zero_le _
  | cons b rest ih =>
    rw [insertFrom]
    split
    · exact Nat.succ_le_succ ((ih none).trans (Nat.le_succ _))
    · exact Nat.succ_le_succ (ih _)

/-- After `m` levels equal to `level`, no run of equal levels passes five. -/
def atMostFive (level : Bool) (m : Nat) : List Bool → Prop
  | [] => True
  | b :: rest => if b = level then m < 5 ∧ atMostFive level (m + 1) rest else atMostFive b 1 rest

/-- A run so far that is shorter passes five no sooner. -/
theorem atMostFive_mono {level : Bool} {m n : Nat} (hmn : m ≤ n) {l : List Bool} (h : atMostFive level n l) :
    atMostFive level m l := by
  induction l generalizing m n with
  | nil => trivial
  | cons b rest ih =>
    unfold atMostFive at h ⊢
    split_ifs at h ⊢
    · exact ⟨by omega, ih (Nat.succ_le_succ hmn) h.2⟩
    · exact h

theorem atMostFive_same (level : Bool) (m : Nat) (l : List Bool) :
    atMostFive level m (level :: l) ↔ m < 5 ∧ atMostFive level (m + 1) l := by
  rw [atMostFive, if_pos rfl]

theorem atMostFive_other {level b : Bool} (h : b ≠ level) (m : Nat) (l : List Bool) :
    atMostFive level m (b :: l) ↔ atMostFive b 1 l := by
  rw [atMostFive, if_neg h]

theorem atMostFive_replicate {level : Bool} {m k : Nat} {l : List Bool}
    (h : atMostFive level m (List.replicate (k + 1) level ++ l)) : m + k < 5 := by
  induction k generalizing m with
  | zero => exact ((atMostFive_same level m l).mp h).1
  | succ k ih =>
    have := ih ((atMostFive_same level m (List.replicate (k + 1) level ++ l)).mp h).2
    omega

theorem atMostFive_tail {level : Bool} {m : Nat} {b : Bool} {l : List Bool} (h : atMostFive level m (b :: l)) :
    ∃ n, atMostFive b (n + 1) l := by
  unfold atMostFive at h
  split_ifs at h with hb
  · exact ⟨m, hb ▸ h.2⟩
  · exact ⟨0, h⟩

/-- Where no run passes five there are no six equal levels in a row. -/
theorem no_six_of_atMostFive {level : Bool} {m : Nat} {l : List Bool} (h : atMostFive level m l) (i : Nat) (x : Bool) :
    (l.drop i).take 6 ≠ List.replicate 6 x := by
  intro hsix
  induction l generalizing level m i with
  | nil => simp at hsix
  | cons b rest ih =>
    obtain ⟨n, htail⟩ := atMostFive_tail h
    cases i with
    | succ i => exact ih htail i hsix
    | zero =>
      have hcons : b :: rest.take 5 = x :: List.replicate 5 x := hsix
      obtain ⟨rfl, hfive⟩ := List.cons.inj hcons
      rw [← List.take_append_drop 5 rest, hfive] at htail
      have := atMostFive_replicate (k := 4) htail
      omega

/-- The levels behind the run counted pass it by one at most, the bit inserted last. -/
theorem insertFrom_atMostFive (bits : List Bool) :
    (∀ level, atMostFive level 1 (insertFrom none bits)) ∧
    ∀ level n, n ≤ 3 → atMostFive level (n + 1) (insertFrom (some (level, n)) bits) := by
  induction bits with
  | nil => exact ⟨fun _ => trivial, fun _ _ _ => trivial⟩
  | cons b rest ih =>
    obtain ⟨hnone, hsome⟩ := ih
    refine ⟨fun level => ?_, fun level n hn => ?_⟩
    · have hrest := hsome b 1 (by decide)
      show atMostFive level 1 (b :: insertFrom (some (b, 1)) rest)
      by_cases hb : b = level
      · subst hb
        exact (atMostFive_same b 1 _).mpr ⟨by decide, hrest⟩
      · exact (atMostFive_other hb 1 _).mpr (atMostFive_mono (by decide) hrest)
    · have hafter (m : Nat) : atMostFive b m ((!b) :: insertFrom none rest) :=
        (atMostFive_other (Bool.not_ne_self b) m _).mpr (hnone _)
      by_cases hb : b = level
      · subst hb
        have hcount : runAfter (some (b, n)) b = n + 1 := if_pos rfl
        rw [insertFrom, hcount]
        split_ifs with h4
        · exact (atMostFive_same b _ _).mpr ⟨by omega, hafter _⟩
        · exact (atMostFive_same b _ _).mpr ⟨by omega, hsome b (n + 1) (by omega)⟩
      · have hcount : runAfter (some (level, n)) b = 1 := if_neg fun h => hb h.symm
        rw [insertFrom, hcount, if_neg (by decide)]
        exact (atMostFive_other hb _ _).mpr (atMostFive_mono (by decide) (hsome b 1 (by decide)))

theorem fieldBits_length (cls sender code : Nat) (payload : List Byte) :
    (fieldBits cls sender code payload).length = 16 + 8 * payload.length := by
  unfold fieldBits
  simp only [List.length_append, natBits_length, flatMap_byteBits_length]

theorem frameBits_length (cls sender code : Nat) (payload : List Byte) :
    (frameBits cls sender code payload).length = 33 + 8 * payload.length := by
  unfold frameBits
  simp only [List.length_append, List.length_cons, natBits_length, fieldBits_length]
  omega

/-- Settles O22: removal undoes insertion, a fifth of the levels at most are inserted, and runs end at five. -/
theorem insertedBitsComeOutAgain : Obligations.InsertedBitsComeOutAgain := by
  refine ⟨fun bits => removeFrom_insertFrom (run := none) trivial bits, fun bits => insertFrom_length_le none bits,
    fun bits i level => no_six_of_atMostFive ((insertFrom_atMostFive bits).1 level) i level,
    fun cls sender code payload hp => ?_⟩
  have hle := insertFrom_length_le none (frameBits cls sender code payload)
  have hge := insertFrom_length_ge none (frameBits cls sender code payload)
  rw [frameBits_length] at hle hge
  rw [show runLength none = 0 from rfl] at hle
  have hlength : (wireImage cls sender code payload).length =
      (insertFrom none (frameBits cls sender code payload)).length + 8 := List.length_append
  omega

end Sys2Proof.Machine

namespace Sys2Proof.Machine

/-! ### Frames are read back (O23) -/

theorem removeBits_insertBits (bits : List Bool) : removeBits (insertBits bits) = (bits, false) :=
  removeFrom_insertFrom (run := none) trivial bits

/-- The number in the field that stands at `a.length`. -/
theorem field_append (a b c : List Bool) {i w : Nat} (hi : i = a.length) (hw : w = b.length) :
    field (a ++ (b ++ c)) i w = bitsNat b := by
  subst hi hw
  unfold field
  rw [List.drop_left, List.take_left]

section
variable (cls sender code : Nat) (payload : List Byte)

/-- The bits of a frame, field by field (R18). -/
theorem frameBits_eq : frameBits cls sender code payload =
    [false] ++ (natBits 2 cls ++ (natBits 4 sender ++ (natBits 4 code ++ (natBits 6 payload.length ++
      (payload.flatMap byteBits ++ natBits 16 (checkOf (fieldBits cls sender code payload)).toNat))))) := by
  simp only [frameBits, fieldBits, List.append_assoc, List.cons_append, List.nil_append]

theorem frame_cls (h : cls < 4) : field (frameBits cls sender code payload) 1 2 = cls := by
  rw [frameBits_eq, field_append (i := 1) [false] (natBits 2 cls) _ rfl (by simp)]
  exact bitsNat_natBits_of_lt h

theorem frame_sender (h : sender < 16) : field (frameBits cls sender code payload) 3 4 = sender := by
  rw [frameBits_eq, ← List.append_assoc, field_append _ (natBits 4 sender) _ (by simp) (by simp)]
  exact bitsNat_natBits_of_lt h

theorem frame_code (h : code < 16) : field (frameBits cls sender code payload) 7 4 = code := by
  rw [frameBits_eq, ← List.append_assoc, ← List.append_assoc, field_append _ (natBits 4 code) _ (by simp) (by simp)]
  exact bitsNat_natBits_of_lt h

theorem frame_payloadLength (h : payload.length < 64) :
    field (frameBits cls sender code payload) 11 6 = payload.length := by
  rw [frameBits_eq, ← List.append_assoc, ← List.append_assoc, ← List.append_assoc,
    field_append _ (natBits 6 payload.length) _ (by simp) (by simp)]
  exact bitsNat_natBits_of_lt h

theorem frame_fields : ((frameBits cls sender code payload).drop 1).take (16 + 8 * payload.length) =
    fieldBits cls sender code payload := by
  rw [← fieldBits_length cls sender code payload]
  exact List.take_left

theorem frame_check : field (frameBits cls sender code payload) (17 + 8 * payload.length) 16 =
    (checkOf (fieldBits cls sender code payload)).toNat := by
  have hcheck := field_append (false :: fieldBits cls sender code payload)
    (natBits 16 (checkOf (fieldBits cls sender code payload)).toNat) [] (i := 17 + 8 * payload.length) (w := 16)
    (by rw [List.length_cons, fieldBits_length]; omega) (by simp)
  rw [List.append_nil] at hcheck
  exact hcheck.trans (bitsNat_natBits_of_lt (BitVec.isLt _))

theorem frame_payload : bytesOf payload.length ((frameBits cls sender code payload).drop 17) = payload := by
  have hdrop : (frameBits cls sender code payload).drop 17 =
      payload.flatMap byteBits ++ natBits 16 (checkOf (fieldBits cls sender code payload)).toNat := by
    rw [frameBits_eq, ← List.append_assoc, ← List.append_assoc, ← List.append_assoc, ← List.append_assoc,
      List.drop_left' (by simp)]
  rw [hdrop, bytesOf_flatMap]

end

theorem ofCode_cls_code (k : NoticeKind) : NoticeKind.ofCode k.cls k.code = some k := by
  cases k <;> rfl

theorem code_lt (k : NoticeKind) : k.code < 16 := by
  cases k <;> decide

/-- A receiver judges the frame of a known kind and length good (R23). -/
theorem judge_frame (p : Pos) (k : NoticeKind) {payload : List Byte} {c : Instr} (hp : payload.length ≤ 32)
    (hc : readNotice k p payload = some c) :
    judge (insertBits (frameBits k.cls p.val k.code payload)) = .good c := by
  have hpos : posOfNat p.val = p := Fin.ext (Nat.mod_eq_of_lt p.isLt)
  unfold judge
  dsimp only
  rw [removeBits_insertBits]
  dsimp only
  rw [frame_sender _ _ _ _ p.isLt, frame_payloadLength _ _ _ _ (by omega), hpos,
    if_neg (by omega), if_neg (by simp)]
  unfold judgeBody
  rw [frameBits_length, if_neg (by simp), frame_fields, frame_check, if_neg (by simp), frame_cls _ _ _ _ (cls_lt k),
    frame_code _ _ _ _ (code_lt k), ofCode_cls_code, frame_payload]
  dsimp only
  rw [hc]

theorem recordImage_length {b : BookRecord} (t : Option Nat) : (recordImage b t).length = 24 := by
  have hmarriage (m : Option Marriage) : (marriageBytes m).length = 2 := by cases m <;> rfl
  have habsent (n : Option Nat) : (absent2 n).length = 2 := by cases n <;> rfl
  unfold recordImage
  simp only [List.length_append, hmarriage, habsent, keyBytes, bytes2, bytes3, nat2, List.length_cons, List.length_nil,
    List.length_take, List.length_map, List.length_replicate]
  omega

theorem beaconBytes_length (c : BeaconContent) : (beaconBytes c).length = match c.shares with
    | none => 13
    | some (_, waits) => 15 + waits.length := by
  unfold beaconBytes
  simp only [List.length_append, stopSetBytes_length]
  cases c.shares with
  | none => rfl
  | some x =>
    simp only [List.length_append, List.length_map, bytes2, nat2, List.length_cons, List.length_nil]
    omega

theorem beaconBytes_length_known {c : BeaconContent}
    (h : ∀ holders waits, c.shares = some (holders, waits) → waits.length ≤ 15) :
    beaconLengthKnown (beaconBytes c).length = true ∧ (beaconBytes c).length ≤ 32 := by
  rw [beaconBytes_length]
  cases hc : c.shares with
  | none => exact ⟨rfl, by decide⟩
  | some x =>
    have hw := h x.1 x.2 hc
    dsimp only
    unfold beaconLengthKnown
    simp only [Bool.or_eq_true, Bool.and_eq_true, decide_eq_true_eq]
    exact ⟨.inr ⟨by omega, by omega⟩, by omega⟩

/-- Every payload sent makes its kind known, and the command it gives is of the frame sent (R23, 12.1). -/
theorem readNotice_payload (s : State) (n : Notice) (h : sendable s n) :
    (s.payload n).length ≤ 32 ∧ ∃ c, readNotice n.kind s.own (s.payload n) = some c ∧
      completedFrame c = some (s.own, n.kind, s.payload n) := by
  cases n with
  | stop r => exact ⟨by simp [State.payload], _, rfl, rfl⟩
  | go => exact ⟨by simp [State.payload], _, rfl, rfl⟩
  | absent p => exact ⟨by simp [State.payload], _, rfl, rfl⟩
  | claim c => exact ⟨by simp [State.payload], _, rfl, rfl⟩
  | release => exact ⟨by simp [State.payload], _, rfl, rfl⟩
  | withdraw => exact ⟨by simp [State.payload], _, rfl, rfl⟩
  | handover target b step =>
    have hlen : (recordImage b (openTimeShown b.openTime step)).length = 24 := recordImage_length _
    refine ⟨?_, .handover s.own (byteOfPos target)
      ⟨(recordImage b (openTimeShown b.openTime step)).toArray, by simpa using hlen⟩,
      dif_pos hlen, ?_⟩
    · show (byteOfPos target :: recordImage b (openTimeShown b.openTime step)).length ≤ 32
      rw [List.length_cons, hlen]
      decide
    · rfl
  | room o => exact ⟨by simp [State.payload], _, rfl, rfl⟩
  | void k f lacksCase lacksJacket =>
    refine ⟨by simp [State.payload, bytes3], _, rfl, ?_⟩
    simp only [completedFrame, word3_bytes3]
    rfl
  | join role digest =>
    refine ⟨by simp [State.payload, bytes2], _, rfl, ?_⟩
    simp only [completedFrame, word2_bytes2]
    rfl
  | beacon =>
    have hwaits : ∀ holders waits, s.beaconContent.shares = some (holders, waits) → waits.length ≤ 15 := by
      intro holders waits hshares
      unfold State.beaconContent at hshares
      dsimp only at hshares
      split_ifs at hshares
      obtain ⟨-, rfl⟩ := Prod.mk.inj (Option.some.inj hshares)
      exact h rfl
    obtain ⟨hknown, hle⟩ := beaconBytes_length_known hwaits
    exact ⟨hle, _, if_pos hknown, if_pos hknown⟩

/-- Settles O23: every payload is read, and its frame is judged by the fields it was made of. -/
theorem sentFramesAreReadBack : Obligations.SentFramesAreReadBack := by
  intro s n h
  obtain ⟨hlen, c, hread, hcompleted⟩ := readNotice_payload s n h
  exact ⟨c, judge_frame s.own n.kind hlen hread, hcompleted⟩

end Sys2Proof.Machine

namespace Sys2Proof.Machine

/-! ### Record images (O24) -/

theorem toNat_word2_nat2 {n : Nat} (h : n < 65536) (a b : Byte) (hab : nat2 n = [a, b]) : (word2 a b).toNat = n := by
  unfold nat2 bytes2 at hab
  obtain ⟨rfl, hb⟩ := List.cons.inj hab
  obtain ⟨rfl, -⟩ := List.cons.inj hb
  rw [word2_bytes2, BitVec.toNat_ofNat, Nat.mod_eq_of_lt h]

theorem marriageBytes_spec (m : Option Marriage) : ∃ a b, marriageBytes m = [a, b] ∧ marriageOf a b = m := by
  cases m with
  | none => exact ⟨0, 0, rfl, rfl⟩
  | some m =>
    refine ⟨nat1 (posNumber m.position), m.arrival, rfl, ?_⟩
    have hpos : (nat1 (posNumber m.position)).toNat = m.position.val + 1 := by
      have := m.position.isLt
      unfold nat1 posNumber
      rw [BitVec.toNat_ofNat, Nat.mod_eq_of_lt (by omega)]
    have hin : 1 ≤ (nat1 (posNumber m.position)).toNat ∧ (nat1 (posNumber m.position)).toNat ≤ 16 := by
      have := m.position.isLt
      omega
    unfold marriageOf
    rw [dif_pos hin]
    refine congrArg some (congrArg (fun p => Marriage.mk p m.arrival) (Fin.ext ?_))
    show (nat1 (posNumber m.position)).toNat - 1 = m.position.val
    omega

theorem nat2_spec {n : Nat} (h : n < 65536) : ∃ a b, nat2 n = [a, b] ∧ (word2 a b).toNat = n :=
  ⟨_, _, rfl, toNat_word2_nat2 h _ _ rfl⟩

theorem absent2_spec {o : Option Nat} (h : o.getD 0 < 0xFFFF) :
    ∃ a b, absent2 o = [a, b] ∧ (word2 a b).toNat = o.getD 0xFFFF := by
  cases o with
  | none => exact ⟨0xFF, 0xFF, rfl, rfl⟩
  | some n => exact nat2_spec (Nat.lt_succ_of_lt h)

theorem formatOf_formatByte (f : Option FormatIx) : formatOf (formatByte f) = f := by
  cases f with
  | none => rfl
  | some f =>
    have hf : (nat1 f.val).toNat = f.val := by
      have := f.isLt
      unfold nat1
      rw [BitVec.toNat_ofNat, Nat.mod_eq_of_lt (by omega)]
    unfold formatByte formatOf
    dsimp only
    rw [dif_pos (by rw [hf]; exact f.isLt)]
    exact congrArg some (Fin.ext hf)

theorem markOf_markByte (m : Mark) : markOf (markByte m) = m := by
  obtain ⟨k, p⟩ := m
  have hp := p.isLt
  have hk : k.code < 14 ∧ MarkKind.ofCode k.code = k := by cases k <;> exact ⟨by decide, rfl⟩
  have hbyte : (markByte ⟨k, p⟩).toNat = k.code * 16 + p.val := by
    unfold markByte nat1
    rw [BitVec.toNat_ofNat, Nat.mod_eq_of_lt (by dsimp only; omega)]
  have hkind : MarkKind.ofCode ((markByte ⟨k, p⟩).toNat / 16) = k := by
    rw [hbyte, show (k.code * 16 + p.val) / 16 = k.code by omega]
    exact hk.2
  have hpos : posOfByte (markByte ⟨k, p⟩) = p := by
    refine Fin.ext ?_
    show (markByte ⟨k, p⟩).toNat % 16 = p.val
    omega
  exact congrArg₂ Mark.mk hkind hpos

/-- The four mark places hold the marks, the places left over being 0. -/
theorem markBytes_spec {l : List Mark} (h : l.length ≤ 4) :
    ∃ m0 m1 m2 m3, (l.map markByte ++ List.replicate 4 0).take 4 = [m0, m1, m2, m3] ∧
      ([m0, m1, m2, m3].take l.length).map markOf = l := by
  have htake : (((l.map markByte ++ List.replicate 4 0).take 4).take l.length).map markOf = l := by
    rw [List.take_take, Nat.min_eq_left h, List.take_left' (List.length_map _), List.map_map]
    exact (List.map_congr_left fun m _ => markOf_markByte m).trans (List.map_id l)
  have hlen : ((l.map markByte ++ List.replicate 4 0).take 4).length = 4 := by
    simp
  obtain ⟨m0, r0, h0, hlen0⟩ := eq_cons_of_length hlen
  obtain ⟨m1, r1, rfl, hlen1⟩ := eq_cons_of_length hlen0
  obtain ⟨m2, r2, rfl, hlen2⟩ := eq_cons_of_length hlen1
  obtain ⟨m3, r3, rfl, hlen3⟩ := eq_cons_of_length hlen2
  obtain rfl := List.eq_nil_of_length_eq_zero hlen3
  rw [h0] at htake
  exact ⟨m0, m1, m2, m3, h0, htake⟩

/-- Title key and copy stand in an image where the record has them, neither being 0 (R1). -/
theorem named_iff {key : Option Key} {copy : Option W16} (hid : key.isSome ↔ copy.isSome) (hkey : key ≠ some 0)
    (hcopy : copy ≠ some 0) : (key.getD 0 ≠ 0 ∧ copy.getD 0 ≠ 0) ↔ key.isSome := by
  cases key with
  | none => exact ⟨fun h => absurd rfl h.1, fun h => by cases h⟩
  | some k =>
    cases copy with
    | none => exact absurd (hid.mp rfl) (by decide)
    | some c => exact ⟨fun _ => rfl, fun _ => ⟨fun h => hkey (congrArg some h), fun h => hcopy (congrArg some h)⟩⟩

/-- The record of an image whose fields stand for those of `b`. -/
theorem recordOf_fields {b : BookRecord} {t1 t0 k2 k1 k0 c1 c0 f cp ca o1 o0 h1 h0 pr jp ja l1 l0 n m0 m1 m2 m3 : Byte}
    (hb : b.lawful) (hkey : b.key ≠ some 0) (hcopy : b.copy ≠ some 0)
    (htag : word2 t1 t0 = b.tag) (hk : word3 k2 k1 k0 = b.key.getD 0) (hc : word2 c1 c0 = b.copy.getD 0)
    (hf : formatOf f = b.format) (hcase : marriageOf cp ca = b.caseMarriage)
    (htime : (word2 o1 o0).toNat = b.openTime.getD 0xFFFF) (hheat : (word2 h1 h0).toNat = b.heatDone)
    (hpressed : pr.getLsbD 0 = b.pressed) (hjacket : marriageOf jp ja = b.jacketMarriage)
    (hlength : (word2 l1 l0).toNat = b.length.getD 0xFFFF) (hlt : b.length.getD 0 < 0xFFFF)
    (hcount : n.toNat = b.marks.length) (hmarks : ([m0, m1, m2, m3].take b.marks.length).map markOf = b.marks) :
    recordOf ⟨#[t1, t0, k2, k1, k0, c1, c0, f, cp, ca, o1, o0, h1, h0, pr, jp, ja, l1, l0, n, m0, m1, m2, m3], rfl⟩ = b := by
  obtain ⟨hmarkCap, hverdict, hid, hformat, hopen, hopenMax, hheatMax, hcased⟩ := hb
  have hmin : min n.toNat 4 = b.marks.length := by
    rw [hcount]
    exact Nat.min_eq_left hmarkCap
  have hgood : b.marks.length = 0 ↔ b.verdict = .good := by
    rw [List.length_eq_zero_iff]
    cases hv : b.verdict <;> simp [hv] at hverdict ⊢ <;> exact hverdict
  show BookRecord.mk (word2 t1 t0) (if word3 k2 k1 k0 ≠ 0 ∧ word2 c1 c0 ≠ 0 then some (word3 k2 k1 k0) else none)
    (if word3 k2 k1 k0 ≠ 0 ∧ word2 c1 c0 ≠ 0 then some (word2 c1 c0) else none)
    (if word3 k2 k1 k0 ≠ 0 ∧ word2 c1 c0 ≠ 0 then formatOf f else none) (marriageOf cp ca)
    (if min n.toNat 4 = 0 ∧ (marriageOf cp ca).isSome ∧ (word2 o1 o0).toNat ≠ 0xFFFF then
      some (min (word2 o1 o0).toNat 3000) else none)
    (min (word2 h1 h0).toNat 6000) (pr.getLsbD 0)
    (if (marriageOf cp ca).isSome ∧ pr.getLsbD 0 then marriageOf jp ja else none)
    (if (word2 l1 l0).toNat = 0xFFFF then none else some (word2 l1 l0).toNat)
    (if min n.toNat 4 = 0 then .good else .reject) (([m0, m1, m2, m3].take (min n.toNat 4)).map markOf) = b
  rw [htag, hk, hc, hf, hcase, htime, hheat, hpressed, hjacket, hlength, hmin, hmarks]
  have hnamed := named_iff hid hkey hcopy
  have hkeyBack : (if b.key.getD 0 ≠ 0 ∧ b.copy.getD 0 ≠ 0 then some (b.key.getD 0) else none) = b.key := by
    simp only [hnamed]
    cases b.key <;> rfl
  have hcopyBack : (if b.key.getD 0 ≠ 0 ∧ b.copy.getD 0 ≠ 0 then some (b.copy.getD 0) else none) = b.copy := by
    simp only [hnamed, hid]
    cases b.copy <;> rfl
  have hformatBack : (if b.key.getD 0 ≠ 0 ∧ b.copy.getD 0 ≠ 0 then b.format else none) = b.format := by
    simp only [hnamed]
    cases hbf : b.format with
    | none => exact ite_self _
    | some x => exact if_pos (hformat (by rw [hbf]; rfl))
  have htimeBack : (if b.marks.length = 0 ∧ b.caseMarriage.isSome ∧ b.openTime.getD 0xFFFF ≠ 0xFFFF then
      some (min (b.openTime.getD 0xFFFF) 3000) else none) = b.openTime := by
    cases ht : b.openTime with
    | none => exact if_neg fun h => h.2.2 rfl
    | some t =>
      obtain ⟨hv, hc⟩ := hopen (by rw [ht]; rfl)
      have hmax : t ≤ 3000 := by simpa [ht] using hopenMax
      rw [if_pos ⟨hgood.mpr hv, hc, by rw [Option.getD_some]; omega⟩, Option.getD_some, Nat.min_eq_left hmax]
  have hjacketBack : (if b.caseMarriage.isSome ∧ b.pressed then b.jacketMarriage else none) = b.jacketMarriage := by
    cases hj : b.jacketMarriage with
    | none => exact ite_self _
    | some m => exact if_pos (hcased (by rw [hj]; rfl))
  have hlengthBack : (if b.length.getD 0xFFFF = 0xFFFF then none else some (b.length.getD 0xFFFF)) = b.length := by
    cases hl : b.length with
    | none => rfl
    | some l =>
      rw [hl, Option.getD_some] at hlt
      exact if_neg (Nat.ne_of_lt hlt)
  have hverdictBack : (if b.marks.length = 0 then Verdict.good else .reject) = b.verdict := by
    simp only [hgood]
    cases b.verdict <;> rfl
  rw [hkeyBack, hcopyBack, hformatBack, htimeBack, Nat.min_eq_left hheatMax, hjacketBack, hlengthBack, hverdictBack]

/-- Settles O24: the bytes of each field, then each field read back under the laws of a record. -/
theorem recordImagesGiveBackTheRecord : Obligations.RecordImagesGiveBackTheRecord := by
  intro b hb hkey hcopy hlength
  obtain ⟨hmarkCap, -, -, -, -, hopenMax, hheatMax, -⟩ := id hb
  obtain ⟨cp, ca, hcaseBytes, hcase⟩ := marriageBytes_spec b.caseMarriage
  obtain ⟨jp, ja, hjacketBytes, hjacket⟩ := marriageBytes_spec b.jacketMarriage
  obtain ⟨o1, o0, htimeBytes, htime⟩ := absent2_spec (o := b.openTime) (by omega)
  obtain ⟨h1, h0, hheatBytes, hheat⟩ := nat2_spec (n := b.heatDone) (by omega)
  obtain ⟨l1, l0, hlengthBytes, hlengthOf⟩ := absent2_spec (o := b.length) (by omega)
  obtain ⟨m0, m1, m2, m3, hmarkBytes, hmarks⟩ := markBytes_spec hmarkCap
  have hcount : (nat1 b.marks.length).toNat = b.marks.length := by
    unfold nat1
    rw [BitVec.toNat_ofNat, Nat.mod_eq_of_lt (by have : Config.markCap = 4 := rfl; omega)]
  have hpressed : (nat1 (bitAt 0 b.pressed)).getLsbD 0 = b.pressed := by cases b.pressed <;> rfl
  refine ⟨_, ?_, recordOf_fields hb hkey hcopy (word2_bytes2 b.tag) (word3_bytes3 (b.key.getD 0)) (word2_bytes2 (b.copy.getD 0))
    (formatOf_formatByte b.format) hcase htime hheat hpressed hjacket hlengthOf (by omega) hcount hmarks⟩
  unfold recordImage
  rw [hcaseBytes, hjacketBytes, htimeBytes, hheatBytes, hlengthBytes, hmarkBytes]
  rfl

end Sys2Proof.Machine

namespace Sys2Proof.Machine

/-! ### BEACON payloads (O25) -/

/-- Bit `w - 1 - i` of the number is level `i` of its bits. -/
theorem testBit_bitsNat (l : List Bool) {i : Nat} (h : i < l.length) : (bitsNat l).testBit (l.length - 1 - i) = l[i] := by
  induction l generalizing i with
  | nil => cases h
  | cons b l ih =>
    rw [bitsNat_cons, Nat.mul_comm, Nat.testBit_two_pow_mul_add _ (bitsNat_lt l), List.length_cons]
    cases i with
    | zero =>
      rw [if_neg (by omega), show l.length + 1 - 1 - 0 - l.length = 0 by omega]
      cases b <;> rfl
    | succ i =>
      have hi : i < l.length := Nat.lt_of_succ_lt_succ h
      rw [if_pos (by omega), show l.length + 1 - 1 - (i + 1) = l.length - 1 - i by omega, ih hi]
      rfl

/-- The holders' bits in the order of the positions. -/
theorem holderNat_eq (holders : List Pos) :
    holderNat holders = bitsNat ((List.finRange 16).map fun p => holders.contains p) := by
  have hbit (b : Bool) (k : Nat) : bitAt k b = b.toNat * 2 ^ k := by
    cases b <;> simp [bitAt]
  unfold holderNat
  simp only [List.finRange_succ, List.finRange_zero, List.map_cons, List.map_nil, bitsNat_cons, hbit]
  rfl

theorem getLsbD_holderNat (holders : List Pos) (p : Pos) :
    (BitVec.ofNat 16 (holderNat holders)).getLsbD (15 - p.val) = holders.contains p := by
  have hbit := testBit_bitsNat ((List.finRange 16).map fun q => holders.contains q) (i := p.val) (by simp)
  rw [BitVec.getLsbD_ofNat, holderNat_eq]
  simp only [List.length_map, List.length_finRange, List.getElem_map, List.getElem_finRange] at hbit
  rw [show (15 - p.val : Nat) = 16 - 1 - p.val from rfl, hbit]
  have := p.isLt
  simp
  omega

/-- An ascending holder list is the positions it contains. -/
theorem filter_contains_of_ascending {holders : List Pos} (h : holders.Pairwise (· < ·)) :
    (List.finRange 16).filter (fun p => holders.contains p) = holders := by
  have hnodup : holders.Nodup := h.imp fun hlt => ne_of_lt hlt
  have hperm : ((List.finRange 16).filter fun p => holders.contains p).Perm holders :=
    (List.perm_ext_iff_of_nodup ((List.nodup_finRange 16).filter _) hnodup).mpr fun p => by
      rw [List.mem_filter, List.contains_iff_mem]
      exact and_iff_right (List.mem_finRange p)
  exact hperm.eq_of_pairwise (fun a b _ _ hab hba => absurd hba (lt_asymm hab)) ((List.pairwise_lt_finRange 16).filter _) h

theorem holdersOf_nat2 {holders : List Pos} (h : holders.Pairwise (· < ·)) {a b : Byte}
    (hab : nat2 (holderNat holders) = [a, b]) : holdersOf (word2 a b) = holders := by
  unfold nat2 bytes2 at hab
  obtain ⟨rfl, hb⟩ := List.cons.inj hab
  obtain ⟨rfl, -⟩ := List.cons.inj hb
  unfold holdersOf
  rw [word2_bytes2]
  simp only [getLsbD_holderNat]
  exact filter_contains_of_ascending h

theorem waitOf_waitByte (e : WaitEntry) : waitOf (waitByte e) = e := by
  obtain ⟨p, c⟩ := e
  cases c <;> revert p <;> decide

/-! The stop set as a number to the base 32, and its bytes as a number to the base 256. -/

theorem foldl_digits (B n : Nat) (l : List Nat) :
    l.foldl (fun n d => n * B + d) n = n * B ^ l.length + l.foldl (fun n d => n * B + d) 0 := by
  induction l generalizing n with
  | nil => simp
  | cons d l ih =>
    rw [List.foldl_cons, ih, List.foldl_cons, ih (0 * B + d), List.length_cons, Nat.pow_succ]
    ring

theorem foldl_digits_lt {B : Nat} {l : List Nat} (h : ∀ d ∈ l, d < B) : l.foldl (fun n d => n * B + d) 0 < B ^ l.length := by
  induction l with
  | nil => exact Nat.one_pos
  | cons d l ih =>
    have hd := h d List.mem_cons_self
    have hl := ih fun x hx => h x (List.mem_cons_of_mem _ hx)
    rw [List.foldl_cons, foldl_digits, List.length_cons, Nat.pow_succ]
    have := Nat.mul_le_mul_right (B ^ l.length) (Nat.succ_le_of_lt hd)
    rw [Nat.zero_mul, Nat.zero_add, Nat.mul_comm (B ^ l.length)]
    rw [Nat.succ_mul] at this
    omega

/-- Digit `i` of a number written to the base `B`. -/
theorem digit_foldl {B : Nat} {l : List Nat} (h : ∀ d ∈ l, d < B) {i : Nat} (hi : i < l.length) :
    l.foldl (fun n d => n * B + d) 0 / B ^ (l.length - 1 - i) % B = l[i] := by
  induction l generalizing i with
  | nil => cases hi
  | cons d l ih =>
    have hd := h d List.mem_cons_self
    have htail : ∀ x ∈ l, x < B := fun x hx => h x (List.mem_cons_of_mem _ hx)
    have hlt := foldl_digits_lt htail
    have hB : 0 < B := Nat.zero_lt_of_lt hd
    rw [List.foldl_cons, foldl_digits, Nat.zero_mul, Nat.zero_add, List.length_cons]
    cases i with
    | zero =>
      rw [show l.length + 1 - 1 - 0 = l.length by omega, Nat.mul_comm, Nat.mul_add_div (Nat.pow_pos hB),
        Nat.div_eq_of_lt hlt, Nat.add_zero, Nat.mod_eq_of_lt hd]
      rfl
    | succ i =>
      have hi : i < l.length := Nat.lt_of_succ_lt_succ hi
      have hpow : d * B ^ l.length = B ^ (l.length - 1 - i) * (B * (d * B ^ i)) := by
        have : B ^ l.length = B ^ (l.length - 1 - i) * (B * B ^ i) := by
          rw [← Nat.pow_succ', ← Nat.pow_add]
          congr 1
          omega
        rw [this]
        ring
      rw [show l.length + 1 - 1 - (i + 1) = l.length - 1 - i by omega, hpow, Nat.mul_add_div (Nat.pow_pos hB),
        Nat.mul_add_mod, ih htail hi]
      rfl

theorem reasons_toNat_lt (r : Reasons) : r.toNat < 32 := by
  obtain ⟨a, b, c, d, e⟩ := r
  revert a b c d e
  decide

theorem reasons_ofNat_toNat (r : Reasons) : Reasons.ofNat r.toNat = r := by
  obtain ⟨a, b, c, d, e⟩ := r
  revert a b c d e
  decide

/-- The five low bits name the reasons. -/
theorem reasons_ofNat_mod (n : Nat) : Reasons.ofNat (n % 32) = Reasons.ofNat n := by
  unfold Reasons.ofNat
  rw [show 32 = 2 ^ 5 from rfl]
  simp only [Nat.testBit_mod_two_pow]
  rfl

theorem stopSetNat_eq (t : Vector Reasons 16) :
    stopSetNat t = (t.toList.map Reasons.toNat).foldl (fun n d => n * 32 + d) 0 := by
  unfold stopSetNat
  rw [List.foldl_map]

/-- The ten bytes of a number below the tenth power of 256. -/
theorem foldl_bytes (n k : Nat) (h : n < 256 ^ k) :
    ((List.range k).map fun i => nat1 (n / 256 ^ (k - 1 - i))).foldl (fun n b => n * 256 + b.toNat) 0 = n := by
  induction k generalizing n with
  | zero => exact (Nat.lt_one_iff.mp h).symm
  | succ k ih =>
    have hinit : (List.range k).map (fun i => nat1 (n / 256 ^ (k + 1 - 1 - i))) =
        (List.range k).map fun i => nat1 (n / 256 / 256 ^ (k - 1 - i)) :=
      List.map_congr_left fun i hi => by
        have hi := List.mem_range.mp hi
        rw [Nat.div_div_eq_div_mul, ← Nat.pow_succ', show k + 1 - 1 - i = (k - 1 - i).succ by omega]
    have hlast : (nat1 (n / 256 ^ (k + 1 - 1 - k))).toNat = n % 256 := by
      unfold nat1
      rw [BitVec.toNat_ofNat, show k + 1 - 1 - k = 0 by omega, Nat.pow_zero, Nat.div_one]
    rw [List.range_succ, List.map_append, List.foldl_append, hinit,
      ih (n / 256) (Nat.div_lt_of_lt_mul (by rw [Nat.mul_comm, ← Nat.pow_succ]; exact h))]
    show n / 256 * 256 + (nat1 (n / 256 ^ (k + 1 - 1 - k))).toNat = n
    rw [hlast]
    omega

theorem stopSetOf_bytes (t : Vector Reasons 16) : stopSetOf (stopSetBytes t) = t := by
  have hdigits : ∀ d ∈ t.toList.map Reasons.toNat, d < 32 := fun d hd => by
    obtain ⟨r, -, rfl⟩ := List.mem_map.mp hd
    exact reasons_toNat_lt r
  have hlen : (t.toList.map Reasons.toNat).length = 16 := by simp
  have hlt : stopSetNat t < 256 ^ 10 := by
    have := foldl_digits_lt hdigits
    rw [hlen, ← stopSetNat_eq] at this
    exact this
  have hback : (stopSetBytes t).foldl (fun n b => n * 256 + b.toNat) 0 = stopSetNat t := foldl_bytes (stopSetNat t) 10 hlt
  unfold stopSetOf
  rw [hback]
  refine Vector.ext fun i hi => ?_
  have hdigit : stopSetNat t / 32 ^ (15 - i) % 32 = t[i].toNat := by
    have h := digit_foldl hdigits (i := i) (by rw [hlen]; exact hi)
    simp only [hlen, ← stopSetNat_eq, List.getElem_map, Vector.getElem_toList] at h
    exact h
  rw [Vector.getElem_ofFn]
  show Reasons.ofNat (stopSetNat t / 32 ^ (15 - i)) = t[i]
  rw [← reasons_ofNat_mod, hdigit, reasons_ofNat_toNat]

theorem headByte_spec {code : Nat} (h : code < 8) (room : Bool) :
    (nat1 (code + bitAt 3 room)).toNat % 8 = code ∧ (nat1 (code + bitAt 3 room)).getLsbD 3 = room := by
  interval_cases code <;> cases room <;> decide

/-- A payload without a share snapshot is read back (12.1). -/
theorem beaconOf_without_shares {c : BeaconContent} (hcode : c.roleCode < 8) (hc : c.shares = none) :
    beaconOf (beaconBytes c) = c := by
  obtain ⟨hrole, hroom⟩ := headByte_spec hcode c.room
  have hbytes : beaconBytes c = nat1 (c.roleCode + bitAt 3 c.room) :: c.digest.extractLsb' 8 8 ::
      c.digest.extractLsb' 0 8 :: stopSetBytes c.stops := by
    unfold beaconBytes
    rw [hc]
    exact List.append_nil _
  have hstops : (((beaconBytes c).drop 3).take 10) = stopSetBytes c.stops := by
    rw [hbytes]
    exact List.take_of_length_le (Nat.le_of_eq (stopSetBytes_length _))
  have hlen : (beaconBytes c).length = 13 := by rw [beaconBytes_length, hc]
  unfold beaconOf
  dsimp only
  rw [hstops, hlen, stopSetOf_bytes, if_neg (by simp), hbytes]
  simp only [byteAt, List.getD_cons_zero, List.getD_cons_succ, word2_bytes2, hrole, hroom]
  rw [← hc]

/-- A payload with a share snapshot is read back (12.1). -/
theorem beaconOf_with_shares {c : BeaconContent} {holders : List Pos} {waits : List WaitEntry}
    (hc : c.shares = some (holders, waits)) (hcode : c.roleCode = 3) (hasc : holders.Pairwise (· < ·)) :
    beaconOf (beaconBytes c) = c := by
  obtain ⟨hrole, hroom⟩ := headByte_spec (by rw [hcode]; decide : c.roleCode < 8) c.room
  obtain ⟨a, b, hab⟩ : ∃ a b, nat2 (holderNat holders) = [a, b] := ⟨_, _, rfl⟩
  have hbytes : beaconBytes c = nat1 (c.roleCode + bitAt 3 c.room) :: c.digest.extractLsb' 8 8 ::
      c.digest.extractLsb' 0 8 :: (stopSetBytes c.stops ++ a :: b :: waits.map waitByte) := by
    unfold beaconBytes
    rw [hc]
    dsimp only
    rw [hab]
    rfl
  have hten := stopSetBytes_length c.stops
  have hstops : (((beaconBytes c).drop 3).take 10) = stopSetBytes c.stops := by
    rw [hbytes]
    exact List.take_left' hten
  have htail : (beaconBytes c).drop 13 = a :: b :: waits.map waitByte := by
    rw [hbytes]
    exact List.drop_left' hten
  have hlen : 15 ≤ (beaconBytes c).length := by
    rw [beaconBytes_length, hc]
    exact Nat.le_add_right _ _
  have hwaits : ((beaconBytes c).drop 15).map waitOf = waits := by
    rw [show 15 = 13 + 2 from rfl, ← List.drop_drop, htail]
    show (waits.map waitByte).map waitOf = waits
    rw [List.map_map]
    exact (List.map_congr_left fun e _ => waitOf_waitByte e).trans (List.map_id waits)
  have hfirst : byteAt (beaconBytes c) 13 = a ∧ byteAt (beaconBytes c) 14 = b := by
    unfold byteAt
    rw [List.getD_eq_getElem?_getD, List.getD_eq_getElem?_getD, ← List.head?_drop, htail,
      show 14 = 13 + 1 from rfl, ← List.getElem?_drop, htail]
    exact ⟨rfl, rfl⟩
  unfold beaconOf
  dsimp only
  rw [hstops, stopSetOf_bytes, hwaits, hfirst.1, hfirst.2, holdersOf_nat2 hasc hab]
  have hhead : byteAt (beaconBytes c) 0 = nat1 (c.roleCode + bitAt 3 c.room) ∧
      word2 (byteAt (beaconBytes c) 1) (byteAt (beaconBytes c) 2) = c.digest := by
    rw [hbytes]
    exact ⟨rfl, word2_bytes2 _⟩
  rw [hhead.1, hhead.2, hrole, hroom, if_pos ⟨hcode, hlen⟩, ← hc]

/-- Settles O25: by whether a share snapshot is carried. -/
theorem beaconPayloadsGiveBackTheirContents : Obligations.BeaconPayloadsGiveBackTheirContents := by
  refine fun c hcode hshares => ⟨?_, (beaconBytes_length_known fun holders waits hc => (hshares holders waits hc).2.2).1⟩
  cases hc : c.shares with
  | none => exact beaconOf_without_shares hcode hc
  | some x =>
    obtain ⟨hpress, hasc, -⟩ := hshares x.1 x.2 hc
    exact beaconOf_with_shares hc hpress hasc

end Sys2Proof.Machine

namespace Sys2Proof.Machine

/-! ### A frame that completes -/

/-- Each notice command receives the frame it completes. -/
theorem exec_of_completed {c : Instr} {p : Pos} {kind : NoticeKind} {payload : List Byte} (s : State)
    (h : completedFrame c = some (p, kind, payload)) :
    ∃ effect, exec c s = .next (s.receive p kind payload effect) := by
  unfold completedFrame at h
  split at h
  case h_11 q l =>
    split_ifs at h with hlen
    cases h
    exact ⟨_, if_pos hlen⟩
  case h_12 => cases h
  all_goals
    cases h
    exact ⟨_, rfl⟩

section
variable {s t0 : State} {p : Pos} {kind : NoticeKind} {payload : List Byte}

theorem receive_of_frame (f : State → State) (ha : s.bus.attached = true) (hf : s.bus.frame ≠ .none) :
    s.receive p kind payload f =
      match s.sentPlace p kind payload with
      | some place => f { s.endFrame .none with bus.txq := s.bus.txq.eraseIdx place }
      | none =>
        if p = s.own then (s.endFrame .none).halt .positionClash
        else if s.awaitingJoin then s.endFrame .none
        else f (s.endFrame .none) := by
  refine if_neg ?_
  rw [ha]
  exact fun h => h.elim (fun h => h rfl) hf

theorem sentPlace_of_not_sending (h : ∀ place, s.bus.frame ≠ .sending place kind payload) :
    s.sentPlace p kind payload = none := by
  unfold State.sentPlace
  split
  next place k l hf =>
    refine if_neg ?_
    rintro ⟨-, rfl, rfl⟩
    exact h place hf
  all_goals rfl

theorem sentPlace_of_other (h : p ≠ s.own) : s.sentPlace p kind payload = none := by
  unfold State.sentPlace
  split
  · exact if_neg fun hp => h hp.1
  all_goals rfl

theorem sentPlace_of_sent {place : Nat} (h : s.sentAt place p kind payload) :
    s.sentPlace p kind payload = some place := by
  unfold State.sentPlace
  rw [h.2]
  exact if_pos ⟨h.1, rfl, rfl⟩

/-- The effect of a frame applied comes to the state in which an ABSENT naming the sender has left the queue. -/
theorem receive_of_takes (g : State → State) (h : s.takesFrame p kind payload t0) :
    s.receive p kind payload (fun u => g (u.removeAbsent p)) = g t0 := by
  obtain ⟨ha, hf, ⟨hp, hj, rfl⟩ | ⟨place, hsent, rfl⟩⟩ := h
  · rw [receive_of_frame _ ha hf, sentPlace_of_other hp]
    dsimp only
    rw [if_neg hp, if_neg (mt (awaitingJoin_iff s).mp hj)]
    rfl
  · rw [receive_of_frame _ ha hf, sentPlace_of_sent hsent]
    rfl

/-- A frame taken changes the bus alone. -/
theorem takesFrame_frame (h : s.takesFrame p kind payload t0) :
    t0 = { s with bus := t0.bus } ∧ t0.bus.attached = true ∧ t0.bus.frame = .none := by
  obtain ⟨ha, -, ⟨-, -, rfl⟩ | ⟨place, -, rfl⟩⟩ := h
  · exact ⟨rfl, ha, rfl⟩
  · exact ⟨rfl, ha, rfl⟩

theorem restartSilence_eq (p : Pos) (s : State) : s.restartSilence p = s.silenceRestarted p := by
  unfold State.restartSilence State.silenceRestarted State.silenceLimit setAt
  split
  · rfl
  · cases (s.mem.members[p]).status <;> rfl

/-- The silence timer restarted leaves all but the timer of the member. -/
theorem silenceRestarted_frame (p : Pos) (s : State) :
    s.silenceRestarted p = { s with mem.silence := (s.silenceRestarted p).mem.silence } := by
  unfold State.silenceRestarted
  split <;> rfl

theorem silenceRestarted_own (s : State) : s.silenceRestarted s.own = s := if_pos rfl

end

/-- The stop set put in place, with the line's standing told (R100). -/
theorem setStops_eq (t : Vector Reasons 16) (p : Pos) (s : State) :
    s.setStops t p = { s with mem.stopSet := t, port := s.linePort t p } := by
  unfold State.setStops State.linePort State.lineRunning
  dsimp only
  split_ifs <;> rfl

theorem linePort_silenceRestarted (t : Vector Reasons 16) (p q : Pos) (s : State) :
    (s.silenceRestarted q).linePort t p = s.linePort t p := by
  rw [silenceRestarted_frame]
  rfl

theorem setStops_silenceRestarted (t : Vector Reasons 16) (p q : Pos) (s : State) :
    (s.silenceRestarted q).setStops t p = { s.silenceRestarted q with mem.stopSet := t, port := s.linePort t p } := by
  rw [setStops_eq, linePort_silenceRestarted]

theorem silenceRestarted_stopSet (p : Pos) (s : State) : (s.silenceRestarted p).mem.stopSet = s.mem.stopSet := by
  rw [silenceRestarted_frame]

/-- Settles O27: the stop entry set after the sender was heard. -/
theorem stopAndGoNoticesSetTheStopSet : Obligations.StopAndGoNoticesSetTheStopSet := by
  refine fun p r s t0 => ⟨fun h => congrArg Host.Outcome.next ?_, fun h => congrArg Host.Outcome.next ?_⟩
  · refine (receive_of_takes (fun u => (u.restartSilence p).setStopEntry p (Reasons.ofNat r.toNat)) h).trans ?_
    dsimp only
    rw [restartSilence_eq, State.setStopEntry, setStops_silenceRestarted, silenceRestarted_stopSet]
    rfl
  · refine (receive_of_takes (fun u => (u.restartSilence p).setStopEntry p Reasons.empty) h).trans ?_
    dsimp only
    rw [restartSilence_eq, State.setStopEntry, setStops_silenceRestarted, silenceRestarted_stopSet]
    rfl

theorem halt_journal_getLast? (r : HaltReason) {s : State} (h : s.isActive) :
    (s.halt r).port.journal.getLast? = some ⟨.halted, 0, .value r.code, s.port.stamp⟩ := by
  unfold State.halt
  rw [if_pos h]
  exact append_journal_getLast? _ _ _ _

theorem halt_mem (r : HaltReason) {s : State} (h : s.isActive) :
    (s.halt r).mem = { s.mem with station := .halted, haltReason := r } := by
  unfold State.halt
  rw [if_pos h]
  rfl

theorem halt_bus (r : HaltReason) {s : State} (h : s.isActive) :
    (s.halt r).bus = { attached := false, txq := [], frame := .none, drive := .none, quiet := s.bus.quiet } := by
  unfold State.halt
  rw [if_pos h]
  rfl

/-- Settles O26: by whose frame it is, and whether the own JOIN has been applied. -/
theorem framesAreAppliedOnlyByMembers : Obligations.FramesAreAppliedOnlyByMembers := by
  intro c p kind payload s hc
  obtain ⟨effect, hexec⟩ := exec_of_completed s hc
  rw [hexec]
  refine ⟨fun h => ?_, fun ha hf hp hj hw => ?_, fun ha hf hactive hp hsent => ?_⟩
  · rw [receive_of_no_frame _ _ _ _ _ (h.imp (fun h => by rw [h]; decide) id)]
  · rw [receive_of_frame _ ha hf, sentPlace_of_other hp]
    dsimp only
    rw [if_neg hp, if_pos ((awaitingJoin_iff s).mpr ⟨hj, hw⟩)]
    rfl
  · have hended : (s.endFrame .none).isActive := hactive
    rw [receive_of_frame _ ha hf, sentPlace_of_not_sending hsent]
    dsimp only
    rw [if_pos hp]
    exact ⟨_, rfl, halt_mem _ hended, halt_bus _ hended, halt_params _ _, halt_zt _ _, halt_work _ _, halt_heat _ _,
      halt_journal_getLast? _ hended⟩

end Sys2Proof.Machine

namespace Sys2Proof.Machine

/-! ### The holders and the wait list -/

theorem mem_addHolder (p q : Pos) (l : List Pos) : q ∈ addHolder p l ↔ q = p ∨ q ∈ l := by
  unfold addHolder
  rw [List.mem_filter, Bool.or_eq_true, beq_iff_eq, List.contains_iff_mem]
  exact and_iff_right (List.mem_finRange q)

theorem addHolder_nodup (p : Pos) (l : List Pos) : (addHolder p l).Nodup := (List.nodup_finRange 16).filter _

/-- A position that joins the holders is one more. -/
theorem addHolder_perm {p : Pos} {l : List Pos} (hp : p ∉ l) (hl : l.Nodup) : (addHolder p l).Perm (p :: l) :=
  (List.perm_ext_iff_of_nodup ((List.nodup_finRange 16).filter _) (List.nodup_cons.mpr ⟨hp, hl⟩)).mpr fun q => by
    exact (mem_addHolder p q l).trans List.mem_cons.symm

theorem mem_dropHolder (p q : Pos) (l : List Pos) : q ∈ dropHolder p l ↔ q ∈ l ∧ q ≠ p := by
  unfold dropHolder
  rw [List.mem_filter, bne_iff_ne]

theorem dropHolder_perm {p : Pos} {l : List Pos} (hp : p ∈ l) (hl : l.Nodup) : l.Perm (p :: dropHolder p l) := by
  have hnot : p ∉ dropHolder p l := fun h => ((mem_dropHolder p p l).mp h).2 rfl
  refine (List.perm_ext_iff_of_nodup hl (List.nodup_cons.mpr ⟨hnot, hl.filter _⟩)).mpr fun q => ?_
  refine Iff.trans ?_ (List.mem_cons.trans (or_congr_right (mem_dropHolder p q l))).symm
  constructor
  · intro hq
    by_cases h : q = p
    · exact .inl h
    · exact .inr ⟨hq, h⟩
  · rintro (rfl | ⟨hq, -⟩)
    · exact hp
    · exact hq

theorem dropHolder_eq (p : Pos) (l : List Pos) : dropHolder p l = l.filter (· ≠ p) :=
  List.filter_congr fun q _ => by simp [bne, beq_eq_decide]

theorem dropWaiting_eq (p : Pos) (l : List WaitEntry) : dropWaiting p l = l.filter fun e => e.position ≠ p :=
  List.filter_congr fun e _ => by simp [bne, beq_eq_decide]

theorem dropHolder_of_not_mem {p : Pos} {l : List Pos} (h : p ∉ l) : dropHolder p l = l :=
  List.filter_eq_self.mpr fun q hq => by
    rw [bne_iff_ne]
    rintro rfl
    exact h hq

theorem dropWaiting_of_not_mem {p : Pos} {l : List WaitEntry} (h : p ∉ l.map WaitEntry.position) : dropWaiting p l = l :=
  List.filter_eq_self.mpr fun e he => by
    rw [bne_iff_ne]
    rintro rfl
    exact h (List.mem_map_of_mem he)

theorem isWaiting_iff (p : Pos) (l : List WaitEntry) : isWaiting p l = true ↔ ∃ e ∈ l, e.position = p := by
  unfold isWaiting
  rw [List.any_eq_true]
  simp only [beq_iff_eq]

/-- The laws of a share table with its budget (R127). -/
def tableLawful (budget : Nat) (holders : List Pos) (waits : List WaitEntry) : Prop :=
  holders.length ≤ budget ∧ (holders ++ waits.map WaitEntry.position).Nodup ∧ waits.Pairwise waitOrder ∧
    (waits ≠ [] → holders.length = budget)

theorem sharesLawful_iff (s : State) : s.sharesLawful ↔ tableLawful s.heatBudget s.heat.holders s.heat.waits := Iff.rfl

section
variable {budget : Nat} {holders : List Pos} {waits : List WaitEntry}

/-- Where the table is lawful a holder's place goes to the head of the wait list, once (R129). -/
theorem grantsFollow_release {e : WaitEntry} {rest : List WaitEntry} (h : tableLawful budget holders (e :: rest))
    {p : Pos} (hp : p ∈ holders) : grantsFollow budget (dropHolder p holders) (e :: rest) =
      ⟨addHolder e.position (dropHolder p holders), rest, [e.position]⟩ := by
  obtain ⟨-, hnodup, -, hfull⟩ := h
  obtain ⟨hholders, -, hdisjoint⟩ := List.nodup_append.mp hnodup
  have hlen : (dropHolder p holders).length + 1 = budget := by
    rw [← hfull (List.cons_ne_nil e rest), (dropHolder_perm hp hholders).length_eq, List.length_cons]
  have hnew : e.position ∉ dropHolder p holders := fun he =>
    hdisjoint _ (List.mem_of_mem_filter he) _ List.mem_cons_self rfl
  have hadd : (addHolder e.position (dropHolder p holders)).length = budget := by
    rw [(addHolder_perm hnew (hholders.filter _)).length_eq, List.length_cons, hlen]
  have hstop : grantsFollow budget (addHolder e.position (dropHolder p holders)) rest =
      ⟨addHolder e.position (dropHolder p holders), rest, []⟩ := by
    cases rest with
    | nil => rfl
    | cons _ _ => exact if_neg (by rw [hadd]; exact Nat.lt_irrefl _)
  rw [grantsFollow, if_pos (by omega), hstop]

theorem tableLawful_addHolder (h : tableLawful budget holders []) {p : Pos} (hp : p ∉ holders)
    (hlt : holders.length < budget) : tableLawful budget (addHolder p holders) [] := by
  obtain ⟨-, hnodup, -, -⟩ := h
  rw [List.map_nil, List.append_nil] at hnodup
  have hperm := addHolder_perm hp hnodup
  refine ⟨?_, ?_, List.Pairwise.nil, fun h => absurd rfl h⟩
  · rw [hperm.length_eq]
    exact hlt
  · rw [List.map_nil, List.append_nil]
    exact addHolder_nodup p holders

/-- A holder that leaves hands its place on, and the table stays lawful. -/
theorem tableLawful_release (h : tableLawful budget holders waits) {p : Pos} (hp : p ∈ holders) :
    tableLawful budget (grantsFollow budget (dropHolder p holders) waits).holders
      (grantsFollow budget (dropHolder p holders) waits).waits := by
  obtain ⟨hle, hnodup, horder, hfull⟩ := id h
  obtain ⟨hholders, hwaits, hdisjoint⟩ := List.nodup_append.mp hnodup
  have hlen := (dropHolder_perm hp hholders).length_eq
  rw [List.length_cons] at hlen
  cases waits with
  | nil =>
    refine ⟨?_, ?_, List.Pairwise.nil, fun h => absurd rfl h⟩
    · show (dropHolder p holders).length ≤ budget
      omega
    · show (dropHolder p holders ++ []).Nodup
      rw [List.append_nil]
      exact hholders.filter _
  | cons e rest =>
    rw [grantsFollow_release h hp]
    have hnew : e.position ∉ dropHolder p holders := fun he =>
      hdisjoint _ (List.mem_of_mem_filter he) _ List.mem_cons_self rfl
    have hadd := (addHolder_perm hnew (hholders.filter _)).length_eq
    rw [List.length_cons] at hadd
    have hbudget := hfull (List.cons_ne_nil e rest)
    have hrest := List.nodup_cons.mp hwaits
    refine ⟨by dsimp only; omega, ?_, (List.pairwise_cons.mp horder).2, fun _ => by dsimp only; omega⟩
    refine List.nodup_append.mpr ⟨addHolder_nodup _ _, hrest.2, fun a ha b hb => ?_⟩
    rintro rfl
    rcases (mem_addHolder _ _ _).mp ha with rfl | ha
    · exact hrest.1 hb
    · exact hdisjoint _ (List.mem_of_mem_filter ha) _ (List.mem_cons_of_mem _ hb) rfl

theorem tableLawful_dropWaiting (h : tableLawful budget holders waits) (p : Pos) :
    tableLawful budget holders (dropWaiting p waits) := by
  obtain ⟨hle, hnodup, horder, hfull⟩ := h
  refine ⟨hle, hnodup.sublist (List.Sublist.append_left (List.filter_sublist.map _) _), horder.filter _, fun hne => hfull ?_⟩
  rintro rfl
  exact hne rfl

theorem waitOrder_book (a : WaitEntry) (p : Pos) : waitOrder a ⟨p, .book⟩ := .inr rfl

theorem placeWaiting_perm (e : WaitEntry) (l : List WaitEntry) : (placeWaiting e l).Perm (e :: l) := by
  unfold placeWaiting
  split
  · exact List.perm_append_singleton e l
  · exact afterKeepwarm_perm e l

theorem tableLawful_placeWaiting (h : tableLawful budget holders waits) {p : Pos} {cls : ClaimClass}
    (hnew : p ∉ holders ++ waits.map WaitEntry.position) (hfree : ¬ (holders.length < budget ∧ waits = [])) :
    tableLawful budget holders (placeWaiting ⟨p, cls⟩ waits) := by
  obtain ⟨hle, hnodup, horder, hfull⟩ := h
  have hperm := (placeWaiting_perm ⟨p, cls⟩ waits).map WaitEntry.position
  refine ⟨hle, ?_, ?_, fun _ => ?_⟩
  · have hall : (holders ++ (placeWaiting ⟨p, cls⟩ waits).map WaitEntry.position).Perm
        (p :: (holders ++ waits.map WaitEntry.position)) := (hperm.append_left holders).trans List.perm_middle
    exact hall.nodup_iff.mpr (List.nodup_cons.mpr ⟨hnew, hnodup⟩)
  · cases cls with
    | book =>
      refine List.pairwise_append.mpr ⟨horder, List.pairwise_singleton _ _, fun a _ b hb => ?_⟩
      obtain rfl := List.mem_singleton.mp hb
      exact waitOrder_book a p
    | keepwarm => exact afterKeepwarm_ordered ⟨p, .keepwarm⟩ waits rfl horder
  · by_cases hw : waits = []
    · exact Nat.le_antisymm hle (Nat.le_of_not_lt fun hlt => hfree ⟨hlt, hw⟩)
    · exact hfull hw

end

/-! ### The grant event (R132, R133) -/

theorem giveUp_of_holding {s : State} (h : s.heat.claim = .holding) :
    s.giveUp = (s.queue .release).andThen fun t => { t with heat.claim := .returning, heat.use := .none } := by
  unfold State.giveUp
  rw [h]

/-- A grant given back with the guard open (R142, R151). -/
theorem giveUp_of_holding_of_room {s : State} (h : s.heat.claim = .holding) (ha : s.isActive)
    (hq : s.bus.txq.length < Config.txqCap) : s.giveUp =
      { s with bus.txq := s.bus.txq ++ [⟨.release, 0⟩], heat.claim := .returning, heat.use := .none } := by
  rw [giveUp_of_holding h, queue_of_room _ _ ha hq, andThen_of_active _ (by exact ha)]

/-- The claim as a grant finds it taken. -/
def State.claimHolding (s : State) : State := { s with heat.claim := .holding, heat.claimWait := none }

theorem grantEvent_of_asked {s : State} (h : s.heat.claim = .queued ∨ s.heat.claim = .waiting) :
    s.grantEvent = match s.heat.use with
      | .book => s.claimHolding.grantToBook
      | .keepwarm => s.claimHolding.grantToKeepwarm
      | .none => s.claimHolding := by
  unfold State.grantEvent
  rcases h with h | h <;> rw [h] <;> rfl

theorem grantEvent_of_book {s : State} (h : s.heat.claim = .queued ∨ s.heat.claim = .waiting) (hu : s.heat.use = .book)
    (hw : s.work.press = .waitShare) : s.grantEvent =
      if s.mem.guardOpen then s.claimHolding.giveUp.andThen fun t =>
        State.log .grantReturned t.workTag .none { t with work.book.returned := true }
      else s.claimHolding.beginHeat (if s.heat.warm then 0 else s.preheat) := by
  rw [grantEvent_of_asked h, hu]
  exact if_pos hw

theorem grantEvent_of_keepwarm {s : State} (h : s.heat.claim = .queued ∨ s.heat.claim = .waiting)
    (hu : s.heat.use = .keepwarm) : s.grantEvent =
      if s.mem.guardOpen then s.claimHolding.giveUp.andThen fun t => t.log .grantReturned 0 .none
      else { s.claimHolding.stopWarmTimer with heat.burst := some s.burstMs } := by
  rw [grantEvent_of_asked h, hu]
  rfl

/-- The grant event takes the grant to what the claim was asked for. -/
theorem grantReaches_grantEvent (u : State) : grantReaches u u.grantEvent := by
  refine ⟨?_, ?_, ?_, ?_, ?_⟩
  · rintro ⟨hasked, huse, hwait⟩ hguard
    rw [grantEvent_of_book hasked huse hwait, hguard]
    rfl
  · rintro ⟨hasked, huse, hwait⟩ ⟨hguard, hrun, hq⟩
    rw [grantEvent_of_book hasked huse hwait, if_pos hguard,
      giveUp_of_holding_of_room (s := u.claimHolding) rfl (.inr hrun) hq, andThen_of_active _ (by exact .inr hrun)]
    rfl
  · rintro ⟨hasked, huse⟩ hguard
    rw [grantEvent_of_keepwarm hasked huse, hguard]
    rfl
  · rintro ⟨hasked, huse⟩ ⟨hguard, hrun, hq⟩
    rw [grantEvent_of_keepwarm hasked huse, if_pos hguard,
      giveUp_of_holding_of_room (s := u.claimHolding) rfl (.inr hrun) hq, andThen_of_active _ (by exact .inr hrun)]
    rfl
  · intro hreturning
    unfold State.grantEvent
    rw [hreturning]
    rfl

/-! ### A position leaves the table (R129 to R131) -/

/-- The table without a position, put in place. -/
def State.tableLeft (q : Pos) (s : State) : State :=
  { s with heat.holders := (tableWithout q s.heat).1, heat.waits := (tableWithout q s.heat).2 }

theorem tableWithout_of_holder {q : Pos} {h : HeatShare} (hq : q ∈ h.holders) (hw : h.waits = []) :
    tableWithout q h = (dropHolder q h.holders, []) := by
  unfold tableWithout
  rw [if_pos hq, hw, ← dropHolder_eq]

theorem tableWithout_of_handed_on {q : Pos} {h : HeatShare} (hq : q ∈ h.holders) {e : WaitEntry} {rest : List WaitEntry}
    (hw : h.waits = e :: rest) : tableWithout q h = (addHolder e.position (dropHolder q h.holders), rest) := by
  unfold tableWithout
  rw [if_pos hq, hw, ← dropHolder_eq]

theorem tableWithout_of_not_holder {q : Pos} {h : HeatShare} (hq : q ∉ h.holders) :
    tableWithout q h = (h.holders, dropWaiting q h.waits) := by
  unfold tableWithout
  rw [if_neg hq, ← dropWaiting_eq]

section
variable {s : State} {q : Pos}

/-- A holder released hands its place on, with the grant event where the place is this station's. -/
theorem releaseHolder_of_lawful (h : s.sharesLawful) (hq : q ∈ s.heat.holders) :
    (s.grantedBy q → s.releaseHolder q = (s.tableLeft q).grantEvent) ∧
    (¬ s.grantedBy q → s.releaseHolder q = s.tableLeft q) := by
  have hlaw := (sharesLawful_iff s).mp h
  unfold State.releaseHolder State.applyGrants State.tableLeft State.grantedBy
  dsimp only
  cases hw : s.heat.waits with
  | nil =>
    rw [tableWithout_of_holder hq hw]
    refine ⟨fun h => ?_, fun _ => ?_⟩
    · cases h.2
    · exact if_neg (by simp [grantsFollow])
  | cons e rest =>
    rw [hw] at hlaw
    rw [grantsFollow_release hlaw hq, tableWithout_of_handed_on hq hw]
    have hown : ([e.position].contains s.own = true) ↔
        (q ∈ s.heat.holders ∧ (e :: rest).head?.map WaitEntry.position = some s.own) := by
      simp [hq, eq_comm]
    refine ⟨fun h => if_pos (hown.mpr h), fun h => if_neg (mt hown.mp h)⟩

/-- A position removed leaves the table, with the grant event where that gives its place to this station. -/
theorem removeShares_of_lawful (h : s.sharesLawful) (q : Pos) :
    (s.grantedBy q → s.removeShares q = (s.tableLeft q).grantEvent) ∧
    (¬ s.grantedBy q → s.removeShares q = s.tableLeft q) := by
  unfold State.removeShares
  dsimp only
  by_cases hq : q ∈ s.heat.holders
  · obtain ⟨-, hnodup, -, -⟩ := (sharesLawful_iff s).mp h
    have hnot : q ∉ s.heat.waits.map WaitEntry.position := fun hw => (List.nodup_append.mp hnodup).2.2 _ hq _ hw rfl
    rw [dropWaiting_of_not_mem hnot, if_pos (List.contains_iff_mem.mpr hq)]
    exact releaseHolder_of_lawful h hq
  · rw [if_neg (by rw [List.contains_iff_mem]; exact hq)]
    refine ⟨fun hg => absurd hg.1 hq, fun _ => ?_⟩
    unfold State.tableLeft
    rw [tableWithout_of_not_holder hq]

theorem leaveShares_of_press (hr : s.role = some .press) (q : Pos) : s.leaveShares q = s.removeShares q := if_pos hr

end

end Sys2Proof.Machine

namespace Sys2Proof.Machine

/-! ### What a notice finds in the share table -/

section
variable {s t : State}

theorem sharesLawful_congr (hp : t.params = s.params) (hh : t.heat = s.heat) (h : s.sharesLawful) : t.sharesLawful := by
  unfold State.sharesLawful State.heatBudget State.lineParam at *
  rw [hp, hh]
  exact h

theorem grantedBy_congr (q : Pos) (hp : t.params = s.params) (hh : t.heat = s.heat) : t.grantedBy q ↔ s.grantedBy q := by
  unfold State.grantedBy State.own
  rw [hp, hh]

theorem posOfByte_byteOfPos (q : Pos) : posOfByte (byteOfPos q) = q := by
  revert q
  decide

theorem takesShares_iff (s : State) (p : Pos) :
    s.takesShares p = true ↔ takesClassOne s p := by
  unfold State.takesShares State.isForeign takesClassOne
  simp only [Bool.and_eq_true, beq_iff_eq, Bool.not_eq_true']

theorem silenceRestarted_members (p : Pos) (s : State) : (s.silenceRestarted p).mem.members = s.mem.members := by
  rw [silenceRestarted_frame]

theorem takesClassOne_silenceRestarted (p q : Pos) (s : State) :
    takesClassOne (s.silenceRestarted q) p ↔ takesClassOne s p := by
  rw [silenceRestarted_frame]
  rfl

/-- A class-1 notice applied: the member is heard, and its effect comes where this station takes shares of it. -/
theorem classOne_of_takes {p : Pos} {kind : NoticeKind} {payload : List Byte} {t0 : State} (f : State → State)
    (h : s.takesFrame p kind payload t0) :
    (takesClassOne s p → s.receive p kind payload (State.classOne p f) = f (t0.silenceRestarted p)) ∧
    (¬ takesClassOne s p → s.receive p kind payload (State.classOne p f) = t0.silenceRestarted p) := by
  have hreceive := receive_of_takes
    (fun u => if (u.restartSilence p).takesShares p then f (u.restartSilence p) else u.restartSilence p) h
  obtain ⟨hframe, -, -⟩ := takesFrame_frame h
  have htakes : (t0.silenceRestarted p).takesShares p = true ↔ takesClassOne s p := by
    rw [takesShares_iff, takesClassOne_silenceRestarted, hframe]
    rfl
  rw [restartSilence_eq] at hreceive
  exact ⟨fun hc => hreceive.trans (if_pos (htakes.mpr hc)), fun hc => hreceive.trans (if_neg (mt htakes.mp hc))⟩

/-- The table left by a position, whatever silence timer ran. -/
theorem tableLeft_silenceRestarted (p q : Pos) (t0 : State) : (t0.silenceRestarted p).tableLeft q =
    { t0.silenceRestarted p with
      heat.holders := (tableWithout q t0.heat).1, heat.waits := (tableWithout q t0.heat).2 } := by
  rw [silenceRestarted_frame]
  rfl

theorem andThen_self (s : State) (f : State → State) (h : ∀ u, f u = u) : s.andThen f = s := by
  unfold State.andThen
  split
  · rfl
  · exact h s

theorem ownReturn_of_other {p : Pos} (u : State) (h : p ≠ u.own) : u.ownReturn p = u := if_neg fun hp => h hp.1

/-- A RELEASE or WITHDRAW of another position does nothing to the own claim. -/
theorem andThen_ownReturn_of_other {p : Pos} (u : State) (h : p ≠ u.own) : u.andThen (State.ownReturn p) = u := by
  unfold State.andThen
  split
  · rfl
  · exact ownReturn_of_other u h

theorem not_waiting_of_holder (h : s.sharesLawful) {p : Pos} (hp : p ∈ s.heat.holders) : isWaiting p s.heat.waits = false := by
  obtain ⟨-, hnodup, -, -⟩ := h
  rw [Bool.eq_false_iff, ne_eq, isWaiting_iff]
  rintro ⟨e, he, rfl⟩
  exact (List.nodup_append.mp hnodup).2.2 _ hp _ (List.mem_map_of_mem he) rfl

theorem releaseHolder_own (p : Pos) (s : State) : (s.releaseHolder p).own = s.own :=
  (releaseHolder_kept (L := False) False.elim).own

theorem applyRelease_of_holder {p : Pos} (hp : p ∈ s.heat.holders) :
    s.applyRelease p = (s.releaseHolder p).andThen (State.ownReturn p) := by
  unfold State.applyRelease
  rw [if_pos (List.contains_iff_mem.mpr hp)]

theorem applyRelease_of_not_holder {p : Pos} (hp : p ∉ s.heat.holders) :
    s.applyRelease p = s.andThen (State.ownReturn p) := by
  unfold State.applyRelease
  rw [if_neg (by rw [List.contains_iff_mem]; exact hp)]

theorem applyWithdraw_of_holder (h : s.sharesLawful) {p : Pos} (hp : p ∈ s.heat.holders) :
    s.applyWithdraw p = (s.releaseHolder p).andThen (State.ownReturn p) := by
  unfold State.applyWithdraw
  rw [not_waiting_of_holder h hp, if_neg (by decide), if_pos (List.contains_iff_mem.mpr hp)]

/-- A WITHDRAW of another position that holds nothing removes its entry, if it has one. -/
theorem applyWithdraw_of_other {p : Pos} (hp : p ∉ s.heat.holders) (hown : p ≠ s.own) :
    s.applyWithdraw p = s.tableLeft p := by
  have hleft : s.tableLeft p = { s with heat.waits := dropWaiting p s.heat.waits } := by
    unfold State.tableLeft
    rw [tableWithout_of_not_holder hp]
  unfold State.applyWithdraw
  rw [hleft]
  by_cases hw : isWaiting p s.heat.waits = true
  · rw [if_pos hw]
    exact if_neg fun h => hown h.1
  · rw [if_neg hw, if_neg (by rw [List.contains_iff_mem]; exact hp), if_neg fun h => hown h.1, dropWaiting_of_not_mem]
    intro hmem
    obtain ⟨e, he, heq⟩ := List.mem_map.mp hmem
    exact hw ((isWaiting_iff _ _).mpr ⟨e, he, heq⟩)

end

/-- What holds of the state in which a notice's effect on the share table begins. -/
theorem heard_spec {s t0 : State} {p : Pos} {kind : NoticeKind} {payload : List Byte}
    (h : s.takesFrame p kind payload t0) :
    (t0.silenceRestarted p).params = s.params ∧ (t0.silenceRestarted p).heat = s.heat ∧
    (t0.silenceRestarted p).own = s.own := by
  obtain ⟨hframe, -, -⟩ := takesFrame_frame h
  rw [silenceRestarted_frame, hframe]
  exact ⟨rfl, rfl, rfl⟩

/-- Settles O30: by whether the sender holds, and whether its notices are taken. -/
theorem releaseAndWithdrawGiveThePlaceOn : Obligations.ReleaseAndWithdrawGiveThePlaceOn := by
  intro p s t0 hown hlaw hgrant
  refine ⟨fun h => ?_, fun h => ?_⟩
  all_goals
    obtain ⟨hparams, hheat, hsame⟩ := heard_spec h
    have hlaw' := sharesLawful_congr hparams hheat hlaw
    have hgrant' := mt (grantedBy_congr p hparams hheat).mp hgrant
    have hown' : p ≠ (t0.silenceRestarted p).own := by rw [hsame]; exact hown
    have hheld (hp : p ∈ s.heat.holders) : ((t0.silenceRestarted p).releaseHolder p).andThen (State.ownReturn p) =
        (t0.silenceRestarted p).tableLeft p := by
      rw [andThen_ownReturn_of_other _ (by rw [releaseHolder_own]; exact hown'),
        (releaseHolder_of_lawful hlaw' (by rw [hheat]; exact hp)).2 hgrant']
    rw [← tableLeft_silenceRestarted]
  · obtain ⟨htaken, hnot⟩ := classOne_of_takes (State.applyRelease p) h
    refine ⟨fun hc => congrArg Host.Outcome.next ((htaken hc).trans ?_), fun hc => congrArg Host.Outcome.next (hnot hc)⟩
    by_cases hp : p ∈ s.heat.holders
    · rw [if_pos hp, applyRelease_of_holder (by rw [hheat]; exact hp), hheld hp]
    · rw [if_neg hp, applyRelease_of_not_holder (by rw [hheat]; exact hp), andThen_ownReturn_of_other _ hown']
  · obtain ⟨htaken, hnot⟩ := classOne_of_takes (State.applyWithdraw p) h
    refine ⟨fun hc => congrArg Host.Outcome.next ((htaken hc).trans ?_), fun hc => congrArg Host.Outcome.next (hnot hc)⟩
    by_cases hp : p ∈ s.heat.holders
    · rw [applyWithdraw_of_holder hlaw' (by rw [hheat]; exact hp), hheld hp]
    · rw [applyWithdraw_of_other (by rw [hheat]; exact hp) hown']

/-! ### An ABSENT that names another position (O28) -/

/-- The port once a member has been found absent (R51), before the stop set changes. -/
def State.absentPort (q : Pos) (s : State) : PortUnit :=
  if (s.mem.members[q]).status = .absent then s.port
  else (s.port.setLatch .memberChange).append .memberAbsent 0 (.value (posNumber q))

/-- The station once a member is absent, before it leaves the share table. -/
def State.memberGone (q : Pos) (s : State) : State :=
  State.setStopEntry q Reasons.empty { s with
    mem.members := s.mem.members.set q.val ⟨.absent, (s.mem.members[q]).role, (s.mem.members[q]).foreign⟩ q.isLt
    mem.silence := s.mem.silence.set q.val none q.isLt
    zt.roomHeard := s.zt.roomHeard.set q.val false q.isLt
    bus.txq := s.bus.txq.filter fun e => e.notice != .absent q
    port := s.absentPort q }

theorem declareAbsent_eq (q : Pos) (s : State) : s.declareAbsent q = (s.memberGone q).leaveShares q := by
  unfold State.declareAbsent State.memberGone State.absentPort
  dsimp only
  split_ifs <;> rfl

theorem linePort_latch {s : State} {t : Vector Reasons 16} {p : Pos} {k : Fin 17} (h : s.port.latches[k] = true) :
    (s.linePort t p).latches[k] = true := by
  unfold State.linePort
  split_ifs
  · exact append_latch_of_set _ _ _ (setLatch_of_set _ h)
  · exact append_latch_of_set _ _ _ (setLatch_of_set _ h)
  · exact h

theorem linePort_newest {s : State} {t : Vector Reasons 16} {p : Pos} {e : JournalEntry}
    (h : s.port.journal.getLast? = some e) : e ∈ (s.linePort t p).journal := by
  unfold State.linePort
  split_ifs
  · exact mem_append_of_newest _ _ _ h
  · exact mem_append_of_newest _ _ _ h
  · exact List.mem_of_getLast? h

theorem memberChange_latch (k : JournalKind) (tag : W16) (d : Detail) (p : PortUnit) :
    ((p.setLatch .memberChange).append k tag d).latches[(15 : Fin 17)] = true :=
  append_latch_of_set _ _ _ (by simp [PortUnit.setLatch, Latch.index])

/-- A member newly absent sets MEMBER_CHANGE and is journalled. -/
theorem memberGone_port (q : Pos) (s : State) :
    ((s.mem.members[q]).status ≠ .absent → (s.memberGone q).port.latches[(15 : Fin 17)] = true ∧
      ⟨.memberAbsent, 0, .value (q.val + 1), s.port.stamp⟩ ∈ (s.memberGone q).port.journal) ∧
    ((s.mem.members[q]).status = .absent → (s.memberGone q).port =
      s.linePort (s.mem.stopSet.set q.val ⟨false, false, false, false, false⟩ q.isLt) q) := by
  unfold State.memberGone State.setStopEntry
  rw [setStops_eq]
  refine ⟨fun h => ?_, fun h => ?_⟩
  · have hport : s.absentPort q = (s.port.setLatch .memberChange).append .memberAbsent 0 (.value (posNumber q)) := if_neg h
    dsimp only
    refine ⟨linePort_latch ?_, linePort_newest ?_⟩
    · dsimp only
      rw [hport]
      exact memberChange_latch _ _ _ _
    · dsimp only
      rw [hport]
      exact append_journal_getLast? _ _ _ _
  · have hport : s.absentPort q = s.port := if_pos h
    dsimp only
    rw [hport]
    rfl

/-- What the member gone makes of the state once its place in the share table is gone as well. -/
theorem memberTaken_memberGone {p q : Pos} {s t0 : State} (hframe : t0 = { s with bus := t0.bus }) (h : HeatShare)
    (hh : h = if s.role = some .press then { t0.heat with
      holders := (tableWithout q t0.heat).1, waits := (tableWithout q t0.heat).2 } else t0.heat) :
    memberTaken p q s t0 { (t0.silenceRestarted p).memberGone q with heat := h } := by
  have hmembers := silenceRestarted_members p t0
  obtain ⟨hnew, hold⟩ := memberGone_port q (t0.silenceRestarted p)
  rw [hmembers] at hnew hold
  have hstamp : (t0.silenceRestarted p).port.stamp = s.port.stamp := by
    rw [silenceRestarted_frame, hframe]
  rw [hstamp] at hnew
  rw [silenceRestarted_stopSet, linePort_silenceRestarted] at hold
  have hgone : (t0.silenceRestarted p).memberGone q = { t0.silenceRestarted p with
      mem := ((t0.silenceRestarted p).memberGone q).mem, zt := ((t0.silenceRestarted p).memberGone q).zt
      bus := ((t0.silenceRestarted p).memberGone q).bus, port := ((t0.silenceRestarted p).memberGone q).port } := by
    unfold State.memberGone State.setStopEntry
    rw [setStops_eq]
  refine ⟨?_, ?_, ?_, hh, hnew, hold, ?_⟩
  · unfold State.memberGone State.setStopEntry
    rw [setStops_eq, silenceRestarted_frame]
    rfl
  · unfold State.memberGone State.setStopEntry
    rw [setStops_eq, silenceRestarted_frame]
  · unfold State.memberGone State.setStopEntry
    rw [setStops_eq, silenceRestarted_frame]
  · rw [hgone, silenceRestarted_frame]

theorem absent_of_takes {p q : Pos} {s t0 : State} (h : s.takesFrame p .absent [byteOfPos q] t0) :
    exec (.absent p (byteOfPos q)) s = .next (if q = s.own then (t0.silenceRestarted p).halt .absentSelf
      else ((t0.silenceRestarted p).memberGone q).leaveShares q) := by
  obtain ⟨hframe, -, -⟩ := takesFrame_frame h
  have hown : t0.own = s.own := by
    rw [hframe]
    rfl
  refine congrArg Host.Outcome.next ((receive_of_takes (fun u => if posOfByte (byteOfPos q) = u.own then
    (u.restartSilence p).halt .absentSelf else (u.restartSilence p).declareAbsent (posOfByte (byteOfPos q))) h).trans ?_)
  rw [posOfByte_byteOfPos, restartSilence_eq, declareAbsent_eq, hown]

theorem memberGone_frame (q : Pos) (s : State) : (s.memberGone q).params = s.params ∧ (s.memberGone q).heat = s.heat := by
  unfold State.memberGone State.setStopEntry
  rw [setStops_eq]
  exact ⟨rfl, rfl⟩

/-- What is known of the share table as an absent member is to leave it. -/
theorem memberGone_spec {p q : Pos} {s t0 : State} {kind : NoticeKind} {payload : List Byte}
    (h : s.takesFrame p kind payload t0) : ((t0.silenceRestarted p).memberGone q).params = s.params ∧
    ((t0.silenceRestarted p).memberGone q).heat = s.heat ∧ ((t0.silenceRestarted p).memberGone q).role = s.role := by
  obtain ⟨hparams, hheat, -⟩ := heard_spec h
  obtain ⟨hparams', hheat'⟩ := memberGone_frame q (t0.silenceRestarted p)
  refine ⟨hparams'.trans hparams, hheat'.trans hheat, ?_⟩
  unfold State.role
  rw [hparams', hparams]

/-- Settles O28: the own position halts the station; another leaves the tables and, at PRESS, the share table. -/
theorem absentTakesTheMemberAway : Obligations.AbsentTakesTheMemberAway := by
  intro p q s t0 h
  obtain ⟨hframe, -, -⟩ := takesFrame_frame h
  have ht0 : t0.heat = s.heat := by rw [hframe]
  refine ⟨fun hown ha => ?_, fun hown hpress => ?_⟩
  · have hactive : (t0.silenceRestarted p).isActive := by
      rw [silenceRestarted_frame, hframe]
      exact ha
    have hsame : (t0.silenceRestarted p).zt = s.zt ∧ (t0.silenceRestarted p).work = s.work ∧
        (t0.silenceRestarted p).heat = s.heat := by
      rw [silenceRestarted_frame, hframe]
      exact ⟨rfl, rfl, rfl⟩
    rw [absent_of_takes h, if_pos hown]
    refine ⟨_, rfl, ?_, ?_, ?_, ?_, (halt_zt _ _).trans hsame.1, (halt_work _ _).trans hsame.2.1,
      (halt_heat _ _).trans hsame.2.2⟩
    · rw [halt_mem _ hactive]
    · rw [halt_mem _ hactive]
    · rw [halt_bus _ hactive]
    · rw [halt_bus _ hactive]
  · obtain ⟨hparams, hheat, hrole⟩ := memberGone_spec (q := q) h
    rw [absent_of_takes h, if_neg hown]
    refine ⟨_, rfl, ?_⟩
    by_cases hr : s.role = some .press
    · obtain ⟨hlaw, hgrant⟩ := hpress.resolve_left fun hn => hn hr
      rw [leaveShares_of_press (hrole.trans hr), (removeShares_of_lawful (sharesLawful_congr hparams hheat hlaw) q).2
        (mt (grantedBy_congr q hparams hheat).mp hgrant)]
      refine memberTaken_memberGone hframe _ ?_
      rw [if_pos hr, hheat, ht0]
    · have hstay : ((t0.silenceRestarted p).memberGone q).leaveShares q = (t0.silenceRestarted p).memberGone q :=
        if_neg (by rw [hrole]; exact hr)
      rw [hstay]
      refine memberTaken_memberGone hframe ((t0.silenceRestarted p).memberGone q).heat ?_
      rw [if_neg hr, hheat, ht0]

end Sys2Proof.Machine

namespace Sys2Proof.Machine

/-! ### Claims open again (R134, R136, R141) -/

theorem tryPending_of_not {u : State} (h : ¬ (u.heat.pendingBook = true ∧ u.mayClaim = true)) : u.tryPending = u := if_neg h

theorem judgeKeepwarm_of_not_mayClaim {u : State} (h : ¬ u.mayClaim = true) : u.judgeKeepwarm = u := by
  refine if_neg fun hw => h ?_
  unfold State.wantsKeepwarm at hw
  simp only [Bool.and_eq_true] at hw
  obtain ⟨⟨⟨⟨⟨⟨-, hmay⟩, -⟩, -⟩, -⟩, -⟩, -⟩ := hw
  exact hmay

/-- With no hold-off the claims open as the own claim and the queue allow. -/
theorem holdOffEnds_claimsOpen {u : State} (h : u.heat.holdOff = none) : holdOffEnds u u.claimsOpen := by
  obtain ⟨hwarm, hcold⟩ := warmthAsked_judgeKeepwarm u
  refine ⟨?_, ?_, fun hbook hno => ?_⟩
  · rintro ⟨⟨hrun, hclaim⟩, hpending⟩ hq
    have hmay : u.mayClaim = true := (mayClaim_iff u).mpr ⟨hrun, hclaim, h⟩
    have htry : u.tryPending = State.queueClaim .book .book { u with heat.pendingBook := false } := if_pos ⟨hpending, hmay⟩
    unfold State.claimsOpen
    rw [htry, queueClaim_of_room (s := { u with heat.pendingBook := false }) _ _ (.inr hrun) hq,
      andThen_of_active _ (by exact .inr hrun), judgeKeepwarm_of_claim (by exact nofun)]
  · rintro ⟨⟨hrun, hclaim⟩, hpending, hrole, hdue, hbar, hrecords, hpress, hguard⟩ hq
    unfold State.claimsOpen
    rw [tryPending_of_not (by rw [hpending]; exact fun h => by cases h.1), andThen_of_active _ (.inr hrun)]
    exact hwarm ⟨hrole, hrun, hclaim, h, hdue, hbar, hrecords, hpress, hguard⟩ hq
  · have hstill : u.tryPending = u := tryPending_of_not fun ⟨hpending, hmay⟩ => by
      obtain ⟨hrun, hclaim, -⟩ := (mayClaim_iff u).mp hmay
      exact hbook ⟨⟨hrun, hclaim⟩, hpending⟩
    unfold State.claimsOpen
    rw [hstill]
    unfold State.andThen
    split
    · rfl
    · refine hcold ?_
      rintro ⟨hrole, hrun, hclaim, -, hdue, hbar, hrecords, hpress, hguard⟩
      refine hno ⟨⟨hrun, hclaim⟩, ?_, hrole, hdue, hbar, hrecords, hpress, hguard⟩
      rw [Bool.eq_false_iff]
      exact fun hpending => hbook ⟨⟨hrun, hclaim⟩, hpending⟩

/-- While a hold-off runs no claim is asked for. -/
theorem claimsOpen_of_holdOff {u : State} (h : u.heat.holdOff ≠ none) : u.claimsOpen = u := by
  have hmay : ¬ u.mayClaim = true := fun hm => h ((mayClaim_iff u).mp hm).2.2
  unfold State.claimsOpen
  rw [tryPending_of_not fun hp => hmay hp.2]
  unfold State.andThen
  split
  · rfl
  · exact judgeKeepwarm_of_not_mayClaim hmay

/-! ### The own claim comes back (O31) -/

section
variable {s t0 : State} {payload : List Byte}

/-- What the own notice finds: its own silence timer is none. -/
theorem heard_own {kind : NoticeKind} (h : s.takesFrame s.own kind payload t0) : t0.silenceRestarted s.own = t0 := by
  obtain ⟨hframe, -, -⟩ := takesFrame_frame h
  have hown : s.own = t0.own := by
    rw [hframe]
    rfl
  rw [hown, silenceRestarted_own]

theorem not_grantedBy_own (h : s.sharesLawful) : ¬ s.grantedBy s.own := by
  rintro ⟨hholds, hhead⟩
  obtain ⟨-, hnodup, -, -⟩ := h
  cases hw : s.heat.waits with
  | nil =>
    rw [hw] at hhead
    cases hhead
  | cons e rest =>
    rw [hw] at hhead hnodup
    have he : e.position = s.own := Option.some.inj hhead
    exact (List.nodup_append.mp hnodup).2.2 _ hholds _ List.mem_cons_self he.symm

/-- The own claim is NONE, and the hold-off runs unless its parameter is 0. -/
theorem ownReturned_spec (u : State) (hs : u.mem.station ≠ .halted) (hclaim : u.heat.claim = .returning) :
    ∃ t, u.andThen (State.ownReturn u.own) = t ∧
      (u.holdOffMs ≠ 0 → t = { u with heat.claim := .none, heat.use := .none, heat.holdOff := some u.holdOffMs }) ∧
      (u.holdOffMs = 0 → holdOffEnds { u with heat.claim := .none, heat.use := .none, heat.holdOff := none } t) := by
  have hreturn : u.andThen (State.ownReturn u.own) = u.ownReleased :=
    (if_neg hs).trans (if_pos ⟨rfl, hclaim⟩)
  refine ⟨_, hreturn, fun h => ?_, fun h => ?_⟩
  · unfold State.ownReleased
    rw [if_neg h]
    exact claimsOpen_of_holdOff (by exact nofun)
  · unfold State.ownReleased
    rw [if_pos h]
    exact holdOffEnds_claimsOpen rfl

/-- A holder's own place given on, then its claim at NONE. -/
theorem ownHolder_spec {u : State} (hlaw : u.sharesLawful) (hs : u.mem.station ≠ .halted)
    (hclaim : u.heat.claim = .returning) (hholds : u.own ∈ u.heat.holders) :
    ∃ t, (u.releaseHolder u.own).andThen (State.ownReturn u.own) = t ∧
      (u.holdOffMs ≠ 0 →
        t = { u.tableLeft u.own with heat.claim := .none, heat.use := .none, heat.holdOff := some u.holdOffMs }) ∧
      (u.holdOffMs = 0 →
        holdOffEnds { u.tableLeft u.own with heat.claim := .none, heat.use := .none, heat.holdOff := none } t) := by
  rw [(releaseHolder_of_lawful hlaw hholds).2 (not_grantedBy_own hlaw)]
  exact ownReturned_spec (u.tableLeft u.own) hs hclaim

/-- The own WITHDRAW of an entry that waits: the claim is NONE without a hold-off. -/
theorem ownWaiting_spec {u : State} (hlaw : u.sharesLawful) (hclaim : u.heat.claim = .returning)
    (hwaits : ∃ e ∈ u.heat.waits, e.position = u.own) :
    ∃ t, u.applyWithdraw u.own = t ∧
      (u.heat.holdOff ≠ none → t = { u.tableLeft u.own with heat.claim := .none, heat.use := .none }) ∧
      (u.heat.holdOff = none → holdOffEnds { u.tableLeft u.own with heat.claim := .none, heat.use := .none } t) := by
  have hnot : u.own ∉ u.heat.holders := fun hholds => by
    have := not_waiting_of_holder hlaw hholds
    rw [(isWaiting_iff _ _).mpr hwaits] at this
    cases this
  have hleft : u.tableLeft u.own = { u with heat.waits := dropWaiting u.own u.heat.waits } := by
    unfold State.tableLeft
    rw [tableWithout_of_not_holder hnot]
  have happly : u.applyWithdraw u.own = (u.tableLeft u.own).claimNone := by
    unfold State.applyWithdraw
    rw [if_pos ((isWaiting_iff _ _).mpr hwaits), hleft]
    exact if_pos ⟨rfl, hclaim⟩
  exact ⟨_, happly, fun h => claimsOpen_of_holdOff h, fun h => holdOffEnds_claimsOpen h⟩

end

/-- Settles O31: the place given on, then the claim back at NONE. -/
theorem ownReturnEndsTheClaim : Obligations.OwnReturnEndsTheClaim := by
  intro s t0 hr hforeign hstation hlaw hclaim
  dsimp only
  have hc : takesClassOne s s.own := ⟨hr, hforeign⟩
  refine ⟨fun hholds => ⟨fun h => ?_, fun h => ?_⟩, fun hwaits h => ?_⟩
  all_goals
    obtain ⟨hframe, -, -⟩ := takesFrame_frame h
    have hheat : t0.heat = s.heat := by rw [hframe]
    have hparams : t0.params = s.params := by rw [hframe]
    have hmem : t0.mem = s.mem := by rw [hframe]
    have hlaw' : t0.sharesLawful := sharesLawful_congr hparams hheat hlaw
    have hown : s.own = t0.own := by rw [hframe]; rfl
    have hms : s.holdOffMs = t0.holdOffMs := by rw [hframe]; rfl
    rw [← hheat] at hclaim
    rw [← hmem] at hstation
  · have hreceive := (classOne_of_takes (State.applyRelease s.own) h).1 hc
    rw [heard_own h, hown, applyRelease_of_holder (by rw [hheat, ← hown]; exact hholds)] at hreceive
    obtain ⟨t, ht, hoff, hnone⟩ := ownHolder_spec hlaw' hstation hclaim (by rw [hheat, ← hown]; exact hholds)
    rw [hown, hms]
    exact ⟨t, congrArg Host.Outcome.next (hreceive.trans ht), hoff, hnone⟩
  · have hreceive := (classOne_of_takes (State.applyWithdraw s.own) h).1 hc
    rw [heard_own h, hown, applyWithdraw_of_holder hlaw' (by rw [hheat, ← hown]; exact hholds)] at hreceive
    obtain ⟨t, ht, hoff, hnone⟩ := ownHolder_spec hlaw' hstation hclaim (by rw [hheat, ← hown]; exact hholds)
    rw [hown, hms]
    exact ⟨t, congrArg Host.Outcome.next (hreceive.trans ht), hoff, hnone⟩
  · have hreceive := (classOne_of_takes (State.applyWithdraw s.own) h).1 hc
    rw [heard_own h, hown] at hreceive
    obtain ⟨t, ht, hoff, hnone⟩ := ownWaiting_spec hlaw' hclaim (by rw [hheat, ← hown]; exact hwaits)
    rw [hown, ← hheat]
    exact ⟨t, congrArg Host.Outcome.next (hreceive.trans ht), hoff, hnone⟩

/-! ### A claim takes its place (O29) -/

theorem placeWaiting_eq (p : Pos) (cls : ClaimClass) (l : List WaitEntry) : placeWaiting ⟨p, cls⟩ l = waitsWith p cls l := by
  cases cls with
  | book => rfl
  | keepwarm =>
    show afterKeepwarm ⟨p, .keepwarm⟩ l = _
    rw [afterKeepwarm_eq]
    simp only [waitsWith, List.append_assoc, List.cons_append, List.nil_append]

section
variable {u : State} {p : Pos}

/-- The position stands in the table. -/
def State.standsIn (p : Pos) (u : State) : Prop := p ∈ u.heat.holders ∨ ∃ e ∈ u.heat.waits, e.position = p

theorem found_iff (p : Pos) (u : State) :
    (u.heat.holders.contains p = true ∨ isWaiting p u.heat.waits = true) ↔ u.standsIn p := by
  rw [List.contains_iff_mem, isWaiting_iff]
  rfl

theorem applyClaim_of_stands (c : ClaimClass) (h : u.standsIn p) :
    u.applyClaim p c = if p = u.own then (u.protocol p .claim).ownClaimFound else u.protocol p .claim :=
  if_pos ((found_iff p u).mpr h)

theorem applyClaim_of_free (c : ClaimClass) (h : ¬ u.standsIn p)
    (hfree : u.heat.holders.length < u.heatBudget ∧ u.heat.waits = []) :
    u.applyClaim p c = if p = u.own then State.grantEvent { u with heat.holders := addHolder p u.heat.holders }
      else State.peerClaimed { u with heat.holders := addHolder p u.heat.holders } :=
  (if_neg (mt (found_iff p u).mp h)).trans (if_pos hfree)

theorem applyClaim_of_full (c : ClaimClass) (h : ¬ u.standsIn p)
    (hfull : ¬ (u.heat.holders.length < u.heatBudget ∧ u.heat.waits = [])) :
    u.applyClaim p c = if p = u.own then State.ownClaimWaits { u with heat.waits := waitsWith p c u.heat.waits }
      else State.peerClaimed { u with heat.waits := waitsWith p c u.heat.waits } := by
  rw [← placeWaiting_eq]
  exact (if_neg (mt (found_iff p u).mp h)).trans (if_neg hfull)

theorem applyClaim_of_other (c : ClaimClass) (hp : p ≠ u.own) (h : ¬ u.standsIn p) (free : Prop) [Decidable free]
    (hfree : free ↔ u.heat.holders.length < u.heatBudget ∧ u.heat.waits = []) :
    u.applyClaim p c = State.peerClaimed { u with
      heat.holders := if free then addHolder p u.heat.holders else u.heat.holders
      heat.waits := if free then u.heat.waits else waitsWith p c u.heat.waits } := by
  by_cases hf : free
  · rw [applyClaim_of_free c h (hfree.mp hf), if_neg hp, if_pos hf, if_pos hf]
  · rw [applyClaim_of_full c h (mt hfree.mpr hf), if_neg hp, if_neg hf, if_neg hf]

theorem ownClaimFound_of_queued (h : u.heat.claim = .queued) : u.ownClaimFound =
    { u with heat.claim := if u.own ∈ u.heat.holders then .holding else .waiting } := by
  unfold State.ownClaimFound
  rw [if_pos h]
  simp only [List.contains_iff_mem]

theorem ownClaimFound_of_returning (h : u.heat.claim = .returning) : u.ownClaimFound = u :=
  if_neg (by rw [h]; decide)

theorem ownClaimWaits_of_queued (h : u.heat.claim = .queued) :
    u.ownClaimWaits = { u with heat.claim := .waiting, heat.claimWait := some u.claimWaitMs } := if_pos h

theorem ownClaimWaits_of_returning (h : u.heat.claim = .returning) : u.ownClaimWaits = u :=
  if_neg (by rw [h]; decide)

/-- A peer's claim that takes its place ends a running hold-off (R136). -/
theorem peerClaimed_spec (u : State) :
    (u.heat.holdOff = none → u.peerClaimed = u) ∧
    (u.heat.holdOff ≠ none → holdOffEnds { u with heat.holdOff := none } u.peerClaimed) := by
  unfold State.peerClaimed
  refine ⟨fun h => ?_, fun h => ?_⟩
  · rw [h]
    rfl
  · rw [if_pos (Option.isSome_iff_ne_none.mpr h)]
    exact holdOffEnds_claimsOpen rfl

end

/-- Settles O29: by whose claim it is, and whether it stands, is free or waits. -/
theorem claimsTakeTheirPlace : Obligations.ClaimsTakeTheirPlace := by
  intro p c s t0 h
  obtain ⟨hframe, -, -⟩ := takesFrame_frame h
  obtain ⟨htaken, hnot⟩ := classOne_of_takes (State.applyClaim p (classOf c)) h
  have hheat : t0.heat = s.heat := by rw [hframe]
  have hbudget : t0.heatBudget = s.heatBudget := by rw [hframe]; rfl
  have hwaitMs : t0.claimWaitMs = s.claimWaitMs := by rw [hframe]; rfl
  have hexec (t : State) (hc : takesClassOne s p) (ht : (t0.silenceRestarted p).applyClaim p (classOf c) = t) :
      exec (.claim p c) s = .next t := congrArg Host.Outcome.next ((htaken hc).trans ht)
  have hignored (hc : ¬ takesClassOne s p) : exec (.claim p c) s = .next (t0.silenceRestarted p) :=
    congrArg Host.Outcome.next (hnot hc)
  obtain ⟨hparams, -, hown⟩ := heard_spec h
  have hu : (t0.silenceRestarted p).heat = t0.heat := by rw [silenceRestarted_frame]
  have hubudget : (t0.silenceRestarted p).heatBudget = s.heatBudget := by
    unfold State.heatBudget State.lineParam
    rw [hparams]
  dsimp only
  rw [show (if c.getLsbD 0 = true then ClaimClass.book else .keepwarm) = classOf c from rfl]
  refine ⟨fun hp => ⟨hignored, fun hc hstands => ?_, fun hc hstands => ?_⟩, fun hp => ?_⟩
  · have hother : p ≠ (t0.silenceRestarted p).own := by rw [hown]; exact hp
    refine hexec _ hc ((applyClaim_of_stands _ ?_).trans (if_neg hother))
    unfold State.standsIn
    rw [hu]
    exact hstands
  · have hother : p ≠ (t0.silenceRestarted p).own := by rw [hown]; exact hp
    have happly := applyClaim_of_other (u := t0.silenceRestarted p) (classOf c) hother
      (by unfold State.standsIn; rw [hu]; exact hstands)
      (t0.heat.holders.length < s.heatBudget ∧ t0.heat.waits = []) (by rw [hu, hubudget])
    rw [hu] at happly ⊢
    obtain ⟨hnone, hoff⟩ := peerClaimed_spec { t0.silenceRestarted p with heat := { t0.heat with
      holders := if t0.heat.holders.length < s.heatBudget ∧ t0.heat.waits = [] then addHolder p t0.heat.holders
        else t0.heat.holders
      waits := if t0.heat.holders.length < s.heatBudget ∧ t0.heat.waits = [] then t0.heat.waits
        else waitsWith p (classOf c) t0.heat.waits } }
    rw [← hheat]
    exact ⟨fun h => hexec _ hc (happly.trans (hnone h)), fun h => ⟨_, hexec _ hc happly, hoff h⟩⟩
  · obtain rfl := hp
    rw [heard_own h] at hexec hignored
    refine ⟨hignored, fun hc hstands hq => ?_, fun hc hstands hr => ?_, fun hc hstands hfree => ?_,
      fun hc hstands hfull => ⟨fun hq => ?_, fun hr => ?_⟩⟩
    all_goals
      have hself : s.own = t0.own := by rw [hframe]; rfl
    · refine hexec _ hc ((applyClaim_of_stands _ hstands).trans ((if_pos hself).trans ?_))
      rw [ownClaimFound_of_queued (by rw [← hheat] at hq; exact hq), hself]
      rfl
    · refine hexec _ hc ((applyClaim_of_stands _ hstands).trans ((if_pos hself).trans ?_))
      exact ownClaimFound_of_returning (by rw [← hheat] at hr; exact hr)
    · rw [← hbudget] at hfree
      exact ⟨_, hexec _ hc ((applyClaim_of_free _ hstands hfree).trans (if_pos hself)), grantReaches_grantEvent _⟩
    · rw [← hbudget] at hfull
      refine hexec _ hc ((applyClaim_of_full _ hstands hfull).trans ((if_pos hself).trans ?_))
      rw [ownClaimWaits_of_queued (by rw [← hheat] at hq; exact hq), ← hwaitMs]
      rfl
    · rw [← hbudget] at hfull
      refine hexec _ hc ((applyClaim_of_full _ hstands hfull).trans ((if_pos hself).trans ?_))
      exact ownClaimWaits_of_returning (by rw [← hheat] at hr; exact hr)

end Sys2Proof.Machine

namespace Sys2Proof.Machine

/-! ### A JOIN (O36, O32) -/

/-- What a JOIN writes into the tables of its own sender and of another (R42, R47 to R50). -/
def State.joinWritten (p : Pos) (role : Byte) (digest : W16) (s : State) : State :=
  ((s.setMember p ⟨.joining, Role.ofCode role.toNat, digest != s.params.digest⟩).setRoomHeard p false
    |>.restartSilence p).startWindow p

/-- A halt empties the queue, whatever stood in it. -/
theorem halt_removeAbsent (r : HaltReason) (p : Pos) {s : State} (h : s.isActive) : (s.removeAbsent p).halt r = s.halt r := by
  unfold State.halt
  rw [if_pos h, if_pos (by exact h)]
  rfl

theorem digestClash_iff (s : State) (p : Pos) (digest : W16) :
    s.digestClash p digest = true ↔ s.mem.station = .joining ∧ p ≠ s.own ∧ digest ≠ s.params.digest := by
  unfold State.digestClash
  simp only [Bool.and_eq_true, beq_iff_eq, bne_iff_ne, and_assoc]

theorem digestClash_active {s : State} {p : Pos} {digest : W16} (h : s.digestClash p digest = true) : s.isActive :=
  .inl ((digestClash_iff s p digest).mp h).1

section
variable {s t0 : State} {p : Pos}

theorem joinNotice_of_takes {role : Byte} {digest : W16} (h : s.takesFrame p .join (role :: bytes2 digest) t0) :
    exec (.joinNotice p role digest) s = .next (if t0.digestClash p digest then t0.halt .digestClash
      else (t0.joinFinds p).andThen (State.joinWritten p role digest)) := by
  have heffect : State.joinEffect p role digest = fun u => (fun v : State => if v.digestClash p digest then
      v.halt .digestClash else (v.joinFinds p).andThen (State.joinWritten p role digest)) (u.removeAbsent p) := by
    funext u
    unfold State.joinEffect
    by_cases hc : u.digestClash p digest = true
    · rw [if_pos hc, ← halt_removeAbsent _ p (digestClash_active hc)]
      exact (if_pos hc).symm
    · rw [if_neg hc]
      exact (if_neg hc).symm
  show Host.Outcome.next (s.receive p .join (role :: bytes2 digest) (State.joinEffect p role digest)) = _
  rw [heffect]
  exact congrArg Host.Outcome.next (receive_of_takes (fun v => if v.digestClash p digest then v.halt .digestClash
    else (v.joinFinds p).andThen (State.joinWritten p role digest)) h)

theorem silenceRestarted_of_own {u : State} (h : p = u.own) : u.silenceRestarted p = u := if_pos h

theorem silenceRestarted_of_joining {u : State} (hp : p ≠ u.own) (h : (u.mem.members[p]).status = .joining) :
    u.silenceRestarted p = { u with
      mem.silence := u.mem.silence.set p.val (some ((u.absenceLimit + 3) * u.beaconPeriod)) p.isLt } := by
  unfold State.silenceRestarted
  rw [if_neg hp, h]

theorem silenceRestarted_of_running {u : State} (hp : p ≠ u.own) (h : (u.mem.members[p]).status = .running) :
    u.silenceRestarted p = { u with
      mem.silence := u.mem.silence.set p.val (some (u.absenceLimit * u.beaconPeriod)) p.isLt } := by
  unfold State.silenceRestarted
  rw [if_neg hp, h]

theorem setMember_status (p : Pos) (m : Member) (s : State) : (((s.setMember p m)).mem.members[p]).status = m.status :=
  congrArg Member.status (Vector.getElem_set_self p.isLt)

theorem memberJoins_joinWritten (role : Byte) (digest : W16) (hp : p ≠ s.own) :
    memberJoins p role digest s (s.joinWritten p role digest) := by
  unfold memberJoins State.joinWritten
  rw [restartSilence_eq, silenceRestarted_of_joining (by exact hp) (setMember_status _ _ _)]
  exact if_neg hp

theorem joinWritten_own (role : Byte) (digest : W16) : s.joinWritten s.own role digest = { s with
    mem.members := s.mem.members.set s.own.val ⟨.joining, Role.ofCode role.toNat, digest != s.params.digest⟩ s.own.isLt
    mem.joinWindow := some (3 * s.beaconPeriod)
    zt.roomHeard := s.zt.roomHeard.set s.own.val false s.own.isLt } := by
  unfold State.joinWritten
  rw [restartSilence_eq, silenceRestarted_of_own (p := s.own) (u := (s.setMember s.own
    ⟨.joining, Role.ofCode role.toNat, digest != s.params.digest⟩).setRoomHeard s.own false) rfl]
  exact if_pos rfl

/-- The old incarnation of a member gone from the stop set (R49). -/
def State.rejoined (p : Pos) (s : State) : State :=
  ((s.latch .memberChange).log .memberRejoined 0 (.value (posNumber p))).setStopEntry p Reasons.empty

theorem rejoined_spec (p : Pos) (s : State) :
    s.rejoined p = { s with
      mem.stopSet := s.mem.stopSet.set p.val Reasons.empty p.isLt, port := (s.rejoined p).port } ∧
    (s.rejoined p).port.latches[(15 : Fin 17)] = true ∧
    ⟨.memberRejoined, 0, .value (p.val + 1), s.port.stamp⟩ ∈ (s.rejoined p).port.journal := by
  unfold State.rejoined State.setStopEntry
  rw [setStops_eq]
  exact ⟨rfl, linePort_latch (memberChange_latch _ _ _ _), linePort_newest (append_journal_getLast? _ _ _ _)⟩

theorem joinFinds_of_known (h : (s.mem.members[p]).status = .joining ∨ (s.mem.members[p]).status = .running) :
    s.joinFinds p = (s.rejoined p).leaveShares p := by
  unfold State.joinFinds
  rcases h with h | h <;> rw [h] <;> rfl

theorem joinFinds_of_unknown (h : ¬ ((s.mem.members[p]).status = .joining ∨ (s.mem.members[p]).status = .running)) :
    s.joinFinds p =
      State.log .memberJoined 0 (.value (posNumber p)) (if p = s.own then s else s.latch .memberChange) := by
  unfold State.joinFinds
  cases hm : (s.mem.members[p]).status with
  | joining => exact absurd (.inl hm) h
  | running => exact absurd (.inr hm) h
  | unknown => rfl
  | absent => rfl

theorem rejoined_params (p : Pos) (s : State) : (s.rejoined p).params = s.params := by
  rw [(rejoined_spec p s).1]

theorem rejoined_heat (p : Pos) (s : State) : (s.rejoined p).heat = s.heat := by
  rw [(rejoined_spec p s).1]

theorem rejoined_role (p : Pos) (s : State) : (s.rejoined p).role = s.role := by
  unfold State.role
  rw [rejoined_params]

/-- A JOIN of another position whose place gives this station no share: what it finds of its sender. -/
theorem joinFinds_of_other (hp : p ≠ s.own) (hpress : s.role ≠ some .press ∨ (s.sharesLawful ∧ ¬ s.grantedBy p)) :
    let known := (s.mem.members[p]).status = .joining ∨ (s.mem.members[p]).status = .running
    ∃ port, s.joinFinds p = { s with
        mem.stopSet := if known then s.mem.stopSet.set p.val Reasons.empty p.isLt else s.mem.stopSet
        heat := if s.role = some .press ∧ known then { s.heat with
          holders := (tableWithout p s.heat).1, waits := (tableWithout p s.heat).2 } else s.heat
        port := port } ∧ port.latches[(15 : Fin 17)] = true ∧
      ⟨if known then .memberRejoined else .memberJoined, 0, .value (p.val + 1), s.port.stamp⟩ ∈ port.journal := by
  dsimp only
  by_cases hk : (s.mem.members[p]).status = .joining ∨ (s.mem.members[p]).status = .running
  · obtain ⟨heq, hlatch, hentry⟩ := rejoined_spec p s
    simp only [hk, if_true, and_true]
    refine ⟨(s.rejoined p).port, ?_, hlatch, hentry⟩
    rw [joinFinds_of_known hk]
    by_cases hr : s.role = some .press
    · obtain ⟨hlaw, hgrant⟩ := hpress.resolve_left fun hn => hn hr
      rw [leaveShares_of_press ((rejoined_role p s).trans hr),
        (removeShares_of_lawful (sharesLawful_congr (rejoined_params p s) (rejoined_heat p s) hlaw) p).2
          (mt (grantedBy_congr p (rejoined_params p s) (rejoined_heat p s)).mp hgrant), if_pos hr]
      unfold State.tableLeft
      rw [rejoined_heat, heq]
    · have hstay : (s.rejoined p).leaveShares p = s.rejoined p := if_neg (by rw [rejoined_role]; exact hr)
      rw [hstay, if_neg hr]
      exact heq
  · simp only [hk, if_false, and_false]
    refine ⟨_, ?_, memberChange_latch .memberJoined 0 (.value (posNumber p)) s.port, ?_⟩
    · rw [joinFinds_of_unknown hk, if_neg hp]
      rfl
    · exact List.mem_of_getLast? (append_journal_getLast? _ _ _ _)

end

/-- The JOIN of another position, once what it finds of its sender is known. -/
theorem joinWritten_of_found {t0 u : State} {p : Pos} {role : Byte} {digest : W16} (hu : t0.joinFinds p = u)
    (hc : ¬ t0.digestClash p digest = true) (hp : p ≠ u.own) (hs : u.mem.station ≠ .halted) :
    ∃ t, (if t0.digestClash p digest then t0.halt .digestClash
      else (t0.joinFinds p).andThen (State.joinWritten p role digest)) = t ∧ memberJoins p role digest u t := by
  refine ⟨_, (if_neg hc).trans ?_, memberJoins_joinWritten role digest hp⟩
  rw [hu]
  exact if_neg hs

/-- Settles O36: a digest clash, a JOIN of another position, and the own JOIN. -/
theorem joinsMakeMembers : Obligations.JoinsMakeMembers := by
  intro p role digest s t0 h
  obtain ⟨b, rfl⟩ : ∃ b, t0 = { s with bus := b } := ⟨_, (takesFrame_frame h).1⟩
  rw [joinNotice_of_takes h]
  refine ⟨fun hj hp hd => ?_, fun hp hclash hpress hstation => ?_, fun hp hstatus hj => ?_⟩
  · have hc : ({ s with bus := b } : State).digestClash p digest = true := (digestClash_iff _ p digest).mpr ⟨hj, hp, hd⟩
    rw [if_pos hc]
    exact ⟨_, rfl, halt_mem _ (digestClash_active hc), halt_zt _ _, halt_heat _ _⟩
  · have hc : ¬ ({ s with bus := b } : State).digestClash p digest = true := fun h =>
      hclash ⟨((digestClash_iff _ p digest).mp h).1, ((digestClash_iff _ p digest).mp h).2.2⟩
    obtain ⟨port, hfinds, hlatch, hentry⟩ := joinFinds_of_other (s := { s with bus := b }) hp hpress
    obtain ⟨t, ht, rfl⟩ := joinWritten_of_found hfinds hc hp hstation
    exact ⟨_, congrArg Host.Outcome.next ht, rfl, rfl, rfl, hlatch, hentry, rfl, rfl⟩
  · have hc : ¬ ({ s with bus := b } : State).digestClash p digest = true := fun h =>
      ((digestClash_iff _ p digest).mp h).2.1 hp
    have hunknown : ¬ ((s.mem.members[p]).status = .joining ∨ (s.mem.members[p]).status = .running) := by
      rw [hstatus]
      decide
    have hfinds := joinFinds_of_unknown (s := { s with bus := b }) (p := p) hunknown
    rw [if_neg hc, hfinds, if_pos (by exact hp), andThen_of_active _ (by exact .inl hj)]
    subst hp
    exact congrArg Host.Outcome.next (joinWritten_own
      (s := State.log .memberJoined 0 (.value (posNumber s.own)) { s with bus := b }) role digest)

/-! ### The own claim is granted (O32) -/

theorem queue_mem_of_room (n : Notice) {s : State} (h : s.bus.txq.length < Config.txqCap) : (s.queue n).mem = s.mem := by
  by_cases ha : s.isActive
  · rw [queue_of_room n s ha h]
  · rw [queue_of_not_active n s ha]

theorem giveUp_mem_of_room {s : State} (h : s.bus.txq.length < Config.txqCap) : s.giveUp.mem = s.mem := by
  have hgiven (n : Notice) (g : State → HeatShare) : ((s.queue n).andThen fun t => { t with heat := g t }).mem = s.mem := by
    unfold State.andThen
    split <;> exact queue_mem_of_room n h
  unfold State.giveUp
  cases s.heat.claim
  case queued => exact hgiven _ fun t => { t.heat with claim := .returning, use := .none, claimWait := none }
  case waiting => exact hgiven _ fun t => { t.heat with claim := .returning, use := .none, claimWait := none }
  case holding => exact hgiven _ fun t => { t.heat with claim := .returning, use := .none }
  all_goals rfl

theorem andThen_mem {f : State → State} (s : State) (h : ∀ t, (f t).mem = t.mem) : (s.andThen f).mem = s.mem := by
  unfold State.andThen
  split
  · rfl
  · exact h s

/-- A grant halts the station in no case where a place is free for a RELEASE (R142, R151). -/
theorem grantEvent_mem_of_room {s : State} (h : s.mem.guardOpen = true → s.bus.txq.length < Config.txqCap) :
    s.grantEvent.mem = s.mem := by
  have hback (f : State → State) (hg : s.mem.guardOpen = true) (hf : ∀ t, (f t).mem = t.mem) :
      (s.claimHolding.giveUp.andThen f).mem = s.mem :=
    (andThen_mem _ hf).trans (giveUp_mem_of_room (s := s.claimHolding) (h hg))
  have hasked : (match s.heat.use with
      | .book => s.claimHolding.grantToBook
      | .keepwarm => s.claimHolding.grantToKeepwarm
      | .none => s.claimHolding).mem = s.mem := by
    cases s.heat.use with
    | none => rfl
    | book =>
      show (s.claimHolding.grantToBook).mem = s.mem
      unfold State.grantToBook
      split_ifs with hw hg hwarm
      · exact hback _ hg fun _ => rfl
      all_goals rfl
    | keepwarm =>
      show (s.claimHolding.grantToKeepwarm).mem = s.mem
      unfold State.grantToKeepwarm
      split_ifs with hg
      · exact hback _ hg fun _ => rfl
      · rfl
  unfold State.grantEvent
  cases s.heat.claim with
  | queued => exact hasked
  | waiting => exact hasked
  | returning => rfl
  | holding => rfl
  | none => rfl

/-- A holder's place handed to this station. -/
theorem released_of_granted {s t0 : State} {p : Pos} {kind : NoticeKind} {payload : List Byte}
    (h : s.takesFrame p kind payload t0) (hlaw : s.sharesLawful) (hp : p ≠ s.own) (hgrant : s.grantedBy p) :
    (t0.silenceRestarted p).heat = s.heat ∧
    ((t0.silenceRestarted p).releaseHolder p).andThen (State.ownReturn p) =
      ((t0.silenceRestarted p).tableLeft p).grantEvent := by
  obtain ⟨hparams, hheat, hown⟩ := heard_spec h
  have hother : p ≠ ((t0.silenceRestarted p).releaseHolder p).own := by
    rw [releaseHolder_own, hown]
    exact hp
  refine ⟨hheat, (andThen_ownReturn_of_other _ hother).trans ?_⟩
  exact (releaseHolder_of_lawful (sharesLawful_congr hparams hheat hlaw) (by rw [hheat]; exact hgrant.1)).1
    ((grantedBy_congr p hparams hheat).mpr hgrant)

/-- Settles O32: the place given on by a RELEASE or WITHDRAW, by an ABSENT and by a JOIN. -/
theorem grantsReachTheClaim : Obligations.GrantsReachTheClaim := by
  intro p s t0 hr hlaw
  refine ⟨fun hp hgrant hforeign => ⟨fun h => ?_, fun h => ?_⟩, fun q hq hgrant h => ?_,
    fun role digest hp hgrant hstation h hknown hclash hroom => ?_⟩
  · obtain ⟨hheat, hreleased⟩ := released_of_granted h hlaw hp hgrant
    refine ⟨_, _, congrArg Host.Outcome.next (((classOne_of_takes (State.applyRelease p) h).1 ⟨hr, hforeign⟩).trans
      ((applyRelease_of_holder (by rw [hheat]; exact hgrant.1)).trans hreleased)),
      tableLeft_silenceRestarted p p t0, grantReaches_grantEvent _⟩
  · obtain ⟨hheat, hreleased⟩ := released_of_granted h hlaw hp hgrant
    obtain ⟨hparams, -, -⟩ := heard_spec h
    refine ⟨_, _, congrArg Host.Outcome.next (((classOne_of_takes (State.applyWithdraw p) h).1 ⟨hr, hforeign⟩).trans
      ((applyWithdraw_of_holder (sharesLawful_congr hparams hheat hlaw) (by rw [hheat]; exact hgrant.1)).trans hreleased)),
      tableLeft_silenceRestarted p p t0, grantReaches_grantEvent _⟩
  · obtain ⟨hparams, hheat, hrole⟩ := memberGone_spec (q := q) h
    have hgone : ((t0.silenceRestarted p).memberGone q).leaveShares q =
        (((t0.silenceRestarted p).memberGone q).tableLeft q).grantEvent := by
      rw [leaveShares_of_press (hrole.trans hr), (removeShares_of_lawful (sharesLawful_congr hparams hheat hlaw) q).1
        ((grantedBy_congr q hparams hheat).mpr hgrant)]
    refine ⟨((t0.silenceRestarted p).memberGone q).tableLeft q, _, ?_, ?_, grantReaches_grantEvent _⟩
    · rw [absent_of_takes h, if_neg hq, hgone]
    · refine memberTaken_memberGone (takesFrame_frame h).1 _ ?_
      have ht0 : t0.heat = s.heat := by rw [(takesFrame_frame h).1]
      rw [if_pos hr, hheat, ht0]
  · obtain ⟨b, rfl⟩ : ∃ b, t0 = { s with bus := b } := ⟨_, (takesFrame_frame h).1⟩
    have hc : ¬ ({ s with bus := b } : State).digestClash p digest = true := fun h =>
      hclash ⟨((digestClash_iff _ p digest).mp h).1, ((digestClash_iff _ p digest).mp h).2.2⟩
    obtain ⟨heq, hlatch, hentry⟩ := rejoined_spec p { s with bus := b }
    have hleft : (State.rejoined p { s with bus := b }).tableLeft p = { s with
        bus := b, mem.stopSet := s.mem.stopSet.set p.val Reasons.empty p.isLt
        heat := { s.heat with holders := (tableWithout p s.heat).1, waits := (tableWithout p s.heat).2 }
        port := (State.rejoined p { s with bus := b }).port } := by
      unfold State.tableLeft
      rw [rejoined_heat, heq]
    have hfinds : State.joinFinds p { s with bus := b } =
        ((State.rejoined p { s with bus := b }).tableLeft p).grantEvent := by
      rw [joinFinds_of_known (by exact hknown), leaveShares_of_press (s := State.rejoined p { s with bus := b })
        ((rejoined_role p _).trans hr)]
      exact (removeShares_of_lawful (s := State.rejoined p { s with bus := b })
        (sharesLawful_congr (s := s) (rejoined_params p _) (rejoined_heat p _) hlaw) p).1
        ((grantedBy_congr (s := s) (t := State.rejoined p { s with bus := b }) p (rejoined_params p _)
          (rejoined_heat p _)).mpr hgrant)
    have hmem := grantEvent_mem_of_room (s := (State.rejoined p { s with bus := b }).tableLeft p)
      (by rw [hleft]; exact hroom)
    obtain ⟨t, ht, hjoins⟩ := joinWritten_of_found (role := role) hfinds hc
      (by rw [(grantEvent_kept (L := False) False.elim).own, hleft]; exact hp) (by rw [hmem, hleft]; exact hstation)
    refine ⟨_, _, t, ?_, hleft, ?_, ?_, grantReaches_grantEvent _, hjoins⟩
    · rw [joinNotice_of_takes h, ht]
    · rw [hleft]
      exact hlatch
    · rw [hleft]
      exact hentry

end Sys2Proof.Machine

namespace Sys2Proof.Machine

/-! ### The share table keeps its laws (O33) -/

/-- The share table stands as it was, and with it the budget. -/
def State.sameTable (s t : State) : Prop :=
  t.params = s.params ∧ t.heat.holders = s.heat.holders ∧ t.heat.waits = s.heat.waits

section
variable {s t u : State}

theorem sameTable_refl (s : State) : s.sameTable s := ⟨rfl, rfl, rfl⟩

theorem sameTable_trans (h : s.sameTable t) (h' : t.sameTable u) : s.sameTable u :=
  ⟨h'.1.trans h.1, h'.2.1.trans h.2.1, h'.2.2.trans h.2.2⟩

theorem sameTable_andThen {f : State → State} (h : s.sameTable t) (hf : ∀ v : State, v.sameTable (f v)) :
    s.sameTable (t.andThen f) := by
  unfold State.andThen
  split
  · exact h
  · exact sameTable_trans h (hf t)

theorem sharesLawful_of_sameTable (h : s.sameTable t) (hs : s.sharesLawful) : t.sharesLawful := by
  obtain ⟨hparams, hholders, hwaits⟩ := h
  unfold State.sharesLawful State.heatBudget State.lineParam at *
  rw [hparams, hholders, hwaits]
  exact hs

theorem sameTable_of_heat (hp : t.params = s.params) (hh : t.heat = s.heat) : s.sameTable t :=
  ⟨hp, congrArg HeatShare.holders hh, congrArg HeatShare.waits hh⟩

theorem queue_sameTable (n : Notice) (s : State) : s.sameTable (s.queue n) :=
  sameTable_of_heat (queue_params n s) (queue_heat n s)

theorem halt_sameTable (r : HaltReason) (s : State) : s.sameTable (s.halt r) :=
  sameTable_of_heat (halt_params r s) (halt_heat r s)

theorem queueClaim_sameTable (c : ClaimClass) (use : ClaimUse) (s : State) : s.sameTable (s.queueClaim c use) :=
  sameTable_andThen (queue_sameTable _ s) fun _ => ⟨rfl, rfl, rfl⟩

theorem judgeKeepwarm_sameTable (s : State) : s.sameTable s.judgeKeepwarm := by
  unfold State.judgeKeepwarm
  split
  · exact queueClaim_sameTable _ _ s
  · exact sameTable_refl s

theorem claimsOpen_sameTable (s : State) : s.sameTable s.claimsOpen := by
  refine sameTable_andThen ?_ judgeKeepwarm_sameTable
  unfold State.tryPending
  split
  · exact queueClaim_sameTable _ _ { s with heat.pendingBook := false }
  · exact sameTable_refl s

theorem claimNone_sameTable (s : State) : s.sameTable s.claimNone :=
  claimsOpen_sameTable { s with heat.claim := .none, heat.use := .none }

theorem ownReturn_sameTable (p : Pos) (s : State) : s.sameTable (s.ownReturn p) := by
  unfold State.ownReturn
  split
  · exact claimNone_sameTable { s with heat.holdOff := if s.holdOffMs = 0 then none else some s.holdOffMs }
  · exact sameTable_refl s

theorem giveUp_sameTable (s : State) : s.sameTable s.giveUp := by
  unfold State.giveUp
  split
  · exact sameTable_andThen (queue_sameTable _ s) fun _ => ⟨rfl, rfl, rfl⟩
  · exact sameTable_andThen (queue_sameTable _ s) fun _ => ⟨rfl, rfl, rfl⟩
  · exact sameTable_andThen (queue_sameTable _ s) fun _ => ⟨rfl, rfl, rfl⟩
  all_goals exact sameTable_refl s

theorem grantToBook_sameTable (s : State) : s.sameTable s.grantToBook := by
  unfold State.grantToBook
  split_ifs
  · exact sameTable_andThen (giveUp_sameTable s) fun _ => ⟨rfl, rfl, rfl⟩
  all_goals exact ⟨rfl, rfl, rfl⟩

theorem grantToKeepwarm_sameTable (s : State) : s.sameTable s.grantToKeepwarm := by
  unfold State.grantToKeepwarm
  split_ifs
  · exact sameTable_andThen (giveUp_sameTable s) fun _ => ⟨rfl, rfl, rfl⟩
  · exact ⟨rfl, rfl, rfl⟩

theorem grantEvent_sameTable (s : State) : s.sameTable s.grantEvent := by
  have hasked : s.sameTable (match s.heat.use with
      | .book => s.claimHolding.grantToBook
      | .keepwarm => s.claimHolding.grantToKeepwarm
      | .none => s.claimHolding) := by
    have htaken : s.sameTable s.claimHolding := ⟨rfl, rfl, rfl⟩
    cases s.heat.use with
    | book => exact sameTable_trans htaken (grantToBook_sameTable _)
    | keepwarm => exact sameTable_trans htaken (grantToKeepwarm_sameTable _)
    | none => exact htaken
  unfold State.grantEvent
  cases s.heat.claim with
  | queued => exact hasked
  | waiting => exact hasked
  | returning => exact sameTable_refl s
  | holding => exact sameTable_refl s
  | none => exact sameTable_refl s

theorem peerClaimed_sameTable (s : State) : s.sameTable s.peerClaimed := by
  unfold State.peerClaimed
  split
  · exact claimsOpen_sameTable { s with heat.holdOff := none }
  · exact sameTable_refl s

theorem ownClaimFound_sameTable (s : State) : s.sameTable s.ownClaimFound := by
  unfold State.ownClaimFound
  split <;> exact ⟨rfl, rfl, rfl⟩

theorem ownClaimWaits_sameTable (s : State) : s.sameTable s.ownClaimWaits := by
  unfold State.ownClaimWaits
  split <;> exact ⟨rfl, rfl, rfl⟩

theorem restartSilence_sameTable (p : Pos) (s : State) : s.sameTable (s.restartSilence p) := by
  unfold State.restartSilence
  split <;> exact ⟨rfl, rfl, rfl⟩

theorem heard_sameTable (p : Pos) (s : State) : s.sameTable (s.heard p) :=
  restartSilence_sameTable p (s.removeAbsent p)

theorem setStopEntry_sameTable (p : Pos) (r : Reasons) (s : State) : s.sameTable (s.setStopEntry p r) := by
  unfold State.setStopEntry
  rw [setStops_eq]
  exact ⟨rfl, rfl, rfl⟩

/-! The operations on the table keep its laws. -/

theorem releaseHolder_lawful (h : s.sharesLawful) {p : Pos} (hp : p ∈ s.heat.holders) : (s.releaseHolder p).sharesLawful := by
  have hlaw := tableLawful_release ((sharesLawful_iff s).mp h) hp
  unfold State.releaseHolder State.applyGrants
  dsimp only
  split
  · exact sharesLawful_of_sameTable (grantEvent_sameTable _) hlaw
  · exact hlaw

theorem dropWaiting_lawful (h : s.sharesLawful) (p : Pos) :
    State.sharesLawful { s with heat.waits := dropWaiting p s.heat.waits } :=
  tableLawful_dropWaiting ((sharesLawful_iff s).mp h) p

theorem removeShares_lawful (h : s.sharesLawful) (p : Pos) : (s.removeShares p).sharesLawful := by
  unfold State.removeShares
  dsimp only
  split
  next hp => exact releaseHolder_lawful (dropWaiting_lawful h p) (List.contains_iff_mem.mp hp)
  · exact dropWaiting_lawful h p

theorem leaveShares_lawful (h : s.sharesLawful) (p : Pos) : (s.leaveShares p).sharesLawful := by
  unfold State.leaveShares
  split
  · exact removeShares_lawful h p
  · exact h

theorem applyRelease_lawful (h : s.sharesLawful) (p : Pos) : (s.applyRelease p).sharesLawful := by
  have hreturn (v : State) : v.sameTable (v.andThen (State.ownReturn p)) :=
    sameTable_andThen (sameTable_refl v) (ownReturn_sameTable p)
  unfold State.applyRelease
  refine sharesLawful_of_sameTable (hreturn _) ?_
  split
  next hp => exact releaseHolder_lawful h (List.contains_iff_mem.mp hp)
  · exact h

theorem applyWithdraw_lawful (h : s.sharesLawful) (p : Pos) : (s.applyWithdraw p).sharesLawful := by
  unfold State.applyWithdraw
  dsimp only
  split_ifs with hw hown hp hown
  · exact sharesLawful_of_sameTable (claimNone_sameTable _) (dropWaiting_lawful h p)
  · exact dropWaiting_lawful h p
  · exact sharesLawful_of_sameTable (sameTable_andThen (sameTable_refl _) (ownReturn_sameTable p))
      (releaseHolder_lawful h (List.contains_iff_mem.mp hp))
  · exact sharesLawful_of_sameTable (claimNone_sameTable s) h
  · exact h

theorem not_mem_of_not_stands {p : Pos} (h : ¬ s.standsIn p) :
    p ∉ s.heat.holders ++ s.heat.waits.map WaitEntry.position := by
  rw [List.mem_append, List.mem_map]
  exact h

theorem applyClaim_lawful (h : s.sharesLawful) (p : Pos) (c : ClaimClass) : (s.applyClaim p c).sharesLawful := by
  by_cases hstands : s.standsIn p
  · rw [applyClaim_of_stands c hstands]
    have hsame : s.sameTable (s.protocol p .claim) := ⟨rfl, rfl, rfl⟩
    split
    · exact sharesLawful_of_sameTable (sameTable_trans hsame (ownClaimFound_sameTable _)) h
    · exact sharesLawful_of_sameTable hsame h
  · have hnew := not_mem_of_not_stands hstands
    by_cases hfree : s.heat.holders.length < s.heatBudget ∧ s.heat.waits = []
    · have hlaw : State.sharesLawful { s with heat.holders := addHolder p s.heat.holders } := by
        have h' := (sharesLawful_iff s).mp h
        show tableLawful s.heatBudget (addHolder p s.heat.holders) s.heat.waits
        rw [hfree.2] at h' ⊢
        exact tableLawful_addHolder h' (fun hp => hnew (List.mem_append_left _ hp)) hfree.1
      rw [applyClaim_of_free c hstands hfree]
      split
      · exact sharesLawful_of_sameTable (grantEvent_sameTable _) hlaw
      · exact sharesLawful_of_sameTable (peerClaimed_sameTable _) hlaw
    · have hlaw : State.sharesLawful { s with heat.waits := waitsWith p c s.heat.waits } := by
        rw [← placeWaiting_eq]
        exact tableLawful_placeWaiting ((sharesLawful_iff s).mp h) hnew hfree
      rw [applyClaim_of_full c hstands hfree]
      split
      · exact sharesLawful_of_sameTable (ownClaimWaits_sameTable _) hlaw
      · exact sharesLawful_of_sameTable (peerClaimed_sameTable _) hlaw

theorem classOne_lawful {f : State → State} (p : Pos) (hf : ∀ v : State, v.sharesLawful → (f v).sharesLawful)
    (h : s.sharesLawful) : (State.classOne p f s).sharesLawful := by
  have hheard := sharesLawful_of_sameTable (heard_sameTable p s) h
  unfold State.classOne
  dsimp only
  split
  · exact hf _ hheard
  · exact hheard

theorem absentEffect_lawful (p : Pos) (q : Byte) (h : s.sharesLawful) : (s.absentEffect p q).sharesLawful := by
  have hheard := sharesLawful_of_sameTable (heard_sameTable p s) h
  unfold State.absentEffect
  dsimp only
  split
  · exact sharesLawful_of_sameTable (halt_sameTable _ _) hheard
  · rw [declareAbsent_eq]
    obtain ⟨hparams, hheat⟩ := memberGone_frame (posOfByte q) (s.heard p)
    exact leaveShares_lawful (sharesLawful_congr hparams hheat hheard) _

theorem joinFinds_lawful (p : Pos) (h : s.sharesLawful) : (s.joinFinds p).sharesLawful := by
  by_cases hk : (s.mem.members[p]).status = .joining ∨ (s.mem.members[p]).status = .running
  · rw [joinFinds_of_known hk]
    exact leaveShares_lawful (sharesLawful_congr (rejoined_params p s) (rejoined_heat p s) h) p
  · rw [joinFinds_of_unknown hk]
    split <;> exact h

theorem joinWritten_sameTable (p : Pos) (role : Byte) (digest : W16) (s : State) :
    s.sameTable (s.joinWritten p role digest) := by
  unfold State.joinWritten State.startWindow
  split
  · exact sameTable_trans (restartSilence_sameTable p ((s.setMember p _).setRoomHeard p false)) ⟨rfl, rfl, rfl⟩
  · exact restartSilence_sameTable p ((s.setMember p _).setRoomHeard p false)

theorem joinEffect_lawful (p : Pos) (role : Byte) (digest : W16) (h : s.sharesLawful) :
    (s.joinEffect p role digest).sharesLawful := by
  unfold State.joinEffect
  split
  · exact sharesLawful_of_sameTable (halt_sameTable _ _) h
  · have hfound : ((s.removeAbsent p).joinFinds p).sharesLawful := joinFinds_lawful p h
    exact sharesLawful_of_sameTable (sameTable_andThen (sameTable_refl _) (joinWritten_sameTable p role digest)) hfound

/-- A frame received keeps the laws of the share table where its effect does. -/
theorem receive_lawful {f : State → State} (p : Pos) (kind : NoticeKind) (payload : List Byte)
    (hf : ∀ v : State, v.sharesLawful → (f v).sharesLawful) (h : s.sharesLawful) :
    (s.receive p kind payload f).sharesLawful :=
  receive_keeps p kind payload f s h h (sharesLawful_of_sameTable (halt_sameTable _ (s.endFrame .none)) h) (hf _ h)
    fun _ => hf _ h

end

/-- Settles O33: the effect of each of the five notices keeps the laws. -/
theorem shareTableKeepsItsLaws : Obligations.ShareTableKeepsItsLaws := by
  rintro c p s t h (⟨b, rfl⟩ | rfl | rfl | ⟨q, rfl⟩ | ⟨r, d, rfl⟩) ht <;> obtain rfl := Host.Outcome.next.inj ht
  · exact receive_lawful _ _ _ (fun v => classOne_lawful p fun v hv => applyClaim_lawful hv p _) h
  · exact receive_lawful _ _ _ (fun v => classOne_lawful p fun v hv => applyRelease_lawful hv p) h
  · exact receive_lawful _ _ _ (fun v => classOne_lawful p fun v hv => applyWithdraw_lawful hv p) h
  · exact receive_lawful _ _ _ (fun v => absentEffect_lawful p q) h
  · exact receive_lawful _ _ _ (fun v => joinEffect_lawful p r d) h

end Sys2Proof.Machine

namespace Sys2Proof.Machine

/-! ### A BEACON (O37) -/

/-- The sender of a BEACON is RUNNING, with its silence timer restarted (R47, R48, R50). -/
def State.beaconHeard (p : Pos) (c : BeaconContent) (s : State) : State :=
  (s.setMember p ⟨.running, Role.ofCode c.roleCode, c.digest != s.params.digest⟩).restartSilence p

section
variable {s t0 : State} {p : Pos}

theorem beacon_of_takes {payload : List Byte} (hlen : beaconLengthKnown payload.length = true)
    (h : s.takesFrame p .beacon payload t0) :
    exec (.beacon p payload) s = .next (if t0.digestClash p (beaconOf payload).digest then t0.halt .digestClash
      else if (beaconOf payload).digest != t0.params.digest then t0.beaconHeard p (beaconOf payload)
      else (t0.beaconHeard p (beaconOf payload)).beaconTells p (beaconOf payload)) := by
  have heffect : State.beaconEffect p payload = fun u => (fun v : State =>
      if v.digestClash p (beaconOf payload).digest then v.halt .digestClash
      else if (beaconOf payload).digest != v.params.digest then v.beaconHeard p (beaconOf payload)
      else (v.beaconHeard p (beaconOf payload)).beaconTells p (beaconOf payload)) (u.removeAbsent p) := by
    funext u
    unfold State.beaconEffect
    dsimp only
    by_cases hc : u.digestClash p (beaconOf payload).digest = true
    · rw [if_pos hc, ← halt_removeAbsent _ p (digestClash_active hc)]
      exact (if_pos hc).symm
    · rw [if_neg hc]
      exact (if_neg hc).symm
  have hexec : exec (.beacon p payload) s = .next (s.receive p .beacon payload (State.beaconEffect p payload)) :=
    if_pos hlen
  rw [hexec, heffect]
  exact congrArg Host.Outcome.next (receive_of_takes (fun v => if v.digestClash p (beaconOf payload).digest then
    v.halt .digestClash else if (beaconOf payload).digest != v.params.digest then v.beaconHeard p (beaconOf payload)
    else (v.beaconHeard p (beaconOf payload)).beaconTells p (beaconOf payload)) h)

theorem beaconHeard_eq (c : BeaconContent) : s.beaconHeard p c = { s with
    mem.members := s.mem.members.set p.val ⟨.running, Role.ofCode c.roleCode, c.digest != s.params.digest⟩ p.isLt
    mem.silence := if p = s.own then s.mem.silence
      else s.mem.silence.set p.val (some (s.absenceLimit * s.beaconPeriod)) p.isLt } := by
  unfold State.beaconHeard
  rw [restartSilence_eq]
  by_cases hp : p = s.own
  · rw [silenceRestarted_of_own (by exact hp), if_pos hp]
    rfl
  · rw [silenceRestarted_of_running (by exact hp) (setMember_status _ _ _), if_neg hp]
    rfl

theorem compareTable_eq (c : BeaconContent) : s.compareTable p c = { s with port := match c.shares with
    | none => s.port
    | some (holders, waits) =>
      if s.role = some .press ∧ ¬ (s.heat.holders = holders ∧ s.heat.waits = waits) then
        (s.port.setLatch .tableDiverge).append .tableDiverge 0 (.value (p.val + 1))
      else s.port } := by
  unfold State.compareTable
  cases c.shares with
  | none => rfl
  | some x =>
    obtain ⟨holders, waits⟩ := x
    have hdiffer : s.sharesDiffer holders waits = true ↔ ¬ (s.heat.holders = holders ∧ s.heat.waits = waits) := by
      unfold State.sharesDiffer
      rw [Bool.or_eq_true, bne_iff_ne, bne_iff_ne, ← not_and_or]
    dsimp only
    by_cases hr : s.role = some .press
    · by_cases hd : s.heat.holders = holders ∧ s.heat.waits = waits
      · rw [if_pos hr, if_neg fun h => h.2 hd]
        exact if_neg (mt hdiffer.mp fun h => h hd)
      · rw [if_pos hr, if_pos ⟨hr, hd⟩]
        exact if_pos (hdiffer.mpr hd)
    · rw [if_neg hr, if_neg fun h => hr h.1]

theorem adoptStops_eq (c : BeaconContent) : s.adoptStops p c = { s with
    mem.stopSet := if s.mem.stopAdopted then s.mem.stopSet else c.stops
    mem.stopAdopted := true
    port := if s.mem.stopAdopted then s.port else s.linePort c.stops p } := by
  unfold State.adoptStops
  by_cases h : s.mem.stopAdopted = true
  · rw [if_pos h, if_pos h, if_pos h]
    conv_lhs => rw [show s = { s with mem.stopAdopted := s.mem.stopAdopted } from rfl, h]
  · rw [if_neg h, if_neg h, if_neg h, setStops_eq]

theorem adoptTable_of_none {c : BeaconContent}
    (h : s.role ≠ some .press ∨ s.mem.shareAdopted = true ∨ c.shares = none) : s.adoptTable c = s := by
  unfold State.adoptTable
  cases hc : c.shares with
  | none => rfl
  | some x =>
    rw [hc] at h
    refine if_neg fun ⟨hr, ha⟩ => ?_
    rcases h with h | h | h
    · exact h hr
    · exact ha h
    · cases h

theorem adoptTable_of_some {c : BeaconContent} {holders : List Pos} {waits : List WaitEntry} (hr : s.role = some .press)
    (ha : s.mem.shareAdopted = false) (hc : c.shares = some (holders, waits)) :
    s.adoptTable c = s.adoptShares holders waits := by
  unfold State.adoptTable
  rw [hc]
  exact if_pos ⟨hr, by rw [ha]; decide⟩

/-- A snapshot adopted that does not name the own position. -/
theorem adoptShares_of_not_named {holders : List Pos} {waits : List WaitEntry}
    (h : ¬ (s.own ∈ holders ∨ ∃ e ∈ waits, e.position = s.own)) :
    s.adoptShares holders waits =
      { s with heat.holders := holders, heat.waits := waits, mem.shareAdopted := true } := by
  refine if_neg ?_
  rw [List.contains_iff_mem, isWaiting_iff]
  exact h

/-- A snapshot adopted that names the own position: its claim is RETURNING (R145). -/
theorem adoptShares_of_named {holders : List Pos} {waits : List WaitEntry} (ha : s.isActive)
    (hq : s.bus.txq.length < 16) (h : s.own ∈ holders ∨ ∃ e ∈ waits, e.position = s.own) :
    s.adoptShares holders waits = { s with
      heat := { s.heat with holders := holders, waits := waits, claim := .returning, use := .none }
      mem.shareAdopted := true
      bus.txq := s.bus.txq ++ [⟨.withdraw, 0⟩]
      port := s.port.append .protocol 0 (.pair (s.own.val + 1) 0x31) } := by
  refine (if_pos ?_).trans ?_
  · rw [List.contains_iff_mem, isWaiting_iff]
    exact h
  · rw [queue_of_room _ _ (by exact ha) (by exact hq), andThen_of_active _ (by exact ha)]
    rfl

end

theorem not_clash_of_same {s : State} {p : Pos} {digest : W16} (h : digest = s.params.digest) :
    ¬ s.digestClash p digest = true := fun hc => ((digestClash_iff s p digest).mp hc).2.2 h

theorem beaconTells_of_joining {s : State} {p : Pos} {c : BeaconContent} (h : s.mem.station = .joining) :
    s.beaconTells p c = ((s.setRoomHeard p c.room).adoptStops p c).adoptTable c := if_pos h

theorem beaconTells_of_not_joining {s : State} {p : Pos} {c : BeaconContent} (h : ¬ s.mem.station = .joining) :
    s.beaconTells p c = (s.setRoomHeard p c.room).compareTable p c := if_neg h

/-- Settles O37: a digest clash, a foreign member, a RUNNING station and the join window. -/
theorem beaconsMakeMembersRunning : Obligations.BeaconsMakeMembersRunning := by
  intro p payload s t0 hlen h
  obtain ⟨b, rfl⟩ : ∃ b, t0 = { s with bus := b } := ⟨_, (takesFrame_frame h).1⟩
  rw [beacon_of_takes hlen h]
  generalize beaconOf payload = c
  dsimp only
  refine ⟨fun hj hp hd => ?_, fun hrun hd => ?_, fun hrun hd => ?_, fun hj hd => ⟨fun hnone => ?_,
    fun holders waits hr ha hc => ⟨fun hnamed => ?_, fun hnamed hq => ?_⟩⟩⟩
  · have hc : ({ s with bus := b } : State).digestClash p c.digest = true := (digestClash_iff _ p _).mpr ⟨hj, hp, hd⟩
    rw [if_pos hc]
    exact ⟨_, rfl, halt_mem _ (digestClash_active hc), halt_zt _ _, halt_heat _ _⟩
  · have hc : ¬ ({ s with bus := b } : State).digestClash p c.digest = true := fun hc =>
      running_ne_joining hrun ((digestClash_iff _ p _).mp hc).1
    rw [if_neg hc, if_pos (bne_iff_ne.mpr hd), beaconHeard_eq]
    rfl
  · rw [if_neg (not_clash_of_same (s := { s with bus := b }) hd), if_neg (by simp [hd])]
    have hnot : ¬ (({ s with bus := b } : State).beaconHeard p c).mem.station = .joining := by
      rw [beaconHeard_eq]
      exact running_ne_joining hrun
    rw [beaconTells_of_not_joining hnot, beaconHeard_eq, compareTable_eq]
    rfl
  · rw [if_neg (not_clash_of_same (s := { s with bus := b }) hd), if_neg (by simp [hd])]
    have hin : (({ s with bus := b } : State).beaconHeard p c).mem.station = .joining := by
      rw [beaconHeard_eq]
      exact hj
    rw [beaconTells_of_joining hin, adoptStops_eq, beaconHeard_eq, adoptTable_of_none (by exact hnone)]
    rfl
  · rw [if_neg (not_clash_of_same (s := { s with bus := b }) hd), if_neg (by simp [hd])]
    have hin : (({ s with bus := b } : State).beaconHeard p c).mem.station = .joining := by
      rw [beaconHeard_eq]
      exact hj
    rw [beaconTells_of_joining hin, adoptStops_eq, beaconHeard_eq, adoptTable_of_some (by exact hr) (by exact ha) hc,
      adoptShares_of_not_named (by exact hnamed)]
    rfl
  · rw [if_neg (not_clash_of_same (s := { s with bus := b }) hd), if_neg (by simp [hd])]
    have hin : (({ s with bus := b } : State).beaconHeard p c).mem.station = .joining := by
      rw [beaconHeard_eq]
      exact hj
    rw [beaconTells_of_joining hin, adoptStops_eq, beaconHeard_eq, adoptTable_of_some (by exact hr) (by exact ha) hc,
      adoptShares_of_named (by exact .inl hj) (by exact hq) (by exact hnamed)]
    rfl

end Sys2Proof.Machine

namespace Sys2Proof.Machine

/-! ### What the magazine does at the end of a wait -/

section
variable {u : State}

/-- The thresholds as they are judged (R110). -/
theorem standings_of_judged (rest : List PartEntry) (low high : Bool) (hl : low = decide (rest.length ≤ u.lowOffset))
    (hh : high = decide (Config.magazineCap - rest.length ≤ u.highOffset)) (voids : List VoidEntry) :
    standingsOf u rest { u.parts with magazine := rest, voids := voids, high := high, low := low } := by
  subst hl hh
  exact ⟨rfl, decide_eq_true_iff, decide_eq_true_iff, rfl, rfl⟩

/-- A standing that comes to be met is latched (R110). -/
theorem judgeThresholds_low_latch (h : u.judgeThresholds.parts.low = true) (hlow : u.parts.low = false) :
    u.judgeThresholds.port.latches[(5 : Fin 17)] = true := by
  rw [judgeThresholds_eq] at h
  have hmet : u.parts.magazine.length ≤ u.lowOffset := of_decide_eq_true h
  unfold State.judgeThresholds
  dsimp only
  rw [if_pos (⟨decide_eq_true hmet, by rw [hlow]; decide⟩ :
    decide (u.parts.magazine.length ≤ u.lowOffset) = true ∧ ¬ u.parts.low = true)]
  simp [State.latch, PortUnit.setLatch, Latch.index]

theorem judgeThresholds_high_latch (h : u.judgeThresholds.parts.high = true) (hhigh : u.parts.high = false) :
    u.judgeThresholds.port.latches[(6 : Fin 17)] = true := by
  rw [judgeThresholds_eq] at h
  have hmet : Config.magazineCap - u.parts.magazine.length ≤ u.highOffset := of_decide_eq_true h
  unfold State.judgeThresholds
  dsimp only
  rw [if_pos (⟨decide_eq_true hmet, by rw [hhigh]; decide⟩ :
    decide (Config.magazineCap - u.parts.magazine.length ≤ u.highOffset) = true ∧ ¬ u.parts.high = true)]
  split_ifs
  · exact setLatch_of_set _ (by simp [State.latch, PortUnit.setLatch, Latch.index])
  · simp [State.latch, PortUnit.setLatch, Latch.index]

section
variable {e : PartEntry} {rest : List PartEntry} (hm : u.parts.magazine = e :: rest)
include hm

theorem skipBegins_startSkip (owned : Bool) : skipBegins owned e rest u (u.startSkip owned) := by
  have hlatch := judgeThresholds_low_latch (u := { u with parts.magazine := rest })
  have hjournal := judgeThresholds_journal { u with parts.magazine := rest }
  have hstamp := judgeThresholds_stamp { u with parts.magazine := rest }
  rw [judgeThresholds_eq] at hlatch
  rw [startSkip_eq hm]
  refine ⟨standings_of_judged rest _ _ rfl rfl _, rfl, fun h hlow => append_latch_of_set _ _ _ (hlatch h hlow), ?_, rfl⟩
  rw [show u.port.stamp = _ from hstamp.symm]
  exact append_journal_getLast? _ _ _ _

theorem marryBegins_startMarry : marryBegins e rest u u.startMarry := by
  have hlatch := judgeThresholds_low_latch (u := { u with parts.magazine := rest })
  rw [judgeThresholds_eq] at hlatch
  rw [startMarry_eq hm]
  exact ⟨standings_of_judged rest _ _ rfl rfl _, rfl, hlatch, judgeThresholds_journal _, rfl⟩

theorem headUnwanted_iff : u.headUnwanted = true ↔ unwanted u.parts.voids e := by
  unfold State.headUnwanted unwanted
  rw [hm]
  simp only [Bool.and_eq_true, Bool.or_eq_true, Bool.not_eq_true', Option.isNone_iff_eq_none, List.any_eq_true,
    PartEntry.equalsVoid, beq_iff_eq, or_assoc]

end

/-- The conditions under which housekeeping is judged (R120). -/
def State.mayHousekeep (u : State) : Prop :=
  u.mem.station = .running ∧ (u.role = some .case ∨ u.role = some .jacket) ∧ u.work.parts = .idle ∧
    u.work.cycle = none ∧ u.parts.doubt = false

theorem housekept_judgeHousekeeping (u : State) : housekept u u.judgeHousekeeping := by
  have hwhole : (u.isRunning ∧ u.hasMagazine ∧ u.work.parts = .idle ∧ u.work.cycle.isNone ∧ ¬ u.parts.doubt ∧
      u.headUnwanted) ↔ (u.mayHousekeep ∧ u.headUnwanted = true) := by
    unfold State.mayHousekeep
    rw [hasMagazine_iff, Option.isNone_iff_eq_none, Bool.not_eq_true]
    simp only [and_assoc]
  refine ⟨fun e rest hmay hm hunwanted => ?_, fun hno => ?_⟩
  · have hjudged : u.judgeHousekeeping = u.startSkip false :=
      if_pos (hwhole.mpr ⟨hmay, (headUnwanted_iff hm).mpr hunwanted⟩)
    rw [hjudged]
    exact skipBegins_startSkip hm false
  · refine if_neg fun h => hno ?_
    obtain ⟨hmay, hunwanted⟩ := hwhole.mp h
    refine ⟨hmay, ?_⟩
    cases hm : u.parts.magazine with
    | nil =>
      unfold State.headUnwanted at hunwanted
      rw [hm] at hunwanted
      cases hunwanted
    | cons e rest => exact ⟨e, rest, rfl, (headUnwanted_iff hm).mp hunwanted⟩

/-- Work done on the record at work, once `f` has come to it. -/
theorem partsEnd_onAtWork {f : ZoneRecord → ZoneRecord} (hf : ∀ z, (f z).phase = z.phase) (u : State) :
    partsEnd f u (u.onAtWork f).partsDone := by
  have hzone : mapFirst (fun y : ZoneRecord => y.phase == .atWork) (fun z => { z with phase := .worked })
      (mapFirst (fun y => y.phase == .atWork) f u.zt.zone) =
      mapFirst (fun y => y.phase == .atWork) (fun y => workDone (f y)) u.zt.zone :=
    mapFirst_mapFirst (p := fun y : ZoneRecord => y.phase == .atWork) (fun z hz => by rw [hf z]; exact hz) u.zt.zone
  unfold partsEnd
  rw [← hzone]
  exact housekept_judgeHousekeeping _

theorem partsEnd_partsDone (u : State) : partsEnd id u u.partsDone := housekept_judgeHousekeeping _

/-- Work done on the record at work once it is marked. -/
theorem partsEnd_markAtWork (k : MarkKind) (u : State) :
    partsEnd (ZoneRecord.onBook (BookRecord.addMark k u.own)) u (u.markAtWork k).partsDone :=
  partsEnd_onAtWork (f := ZoneRecord.onBook (BookRecord.addMark k u.own)) (fun _ => rfl) u

theorem noPartGiven_noPart (u : State) : noPartGiven u u.noPart :=
  partsEnd_onAtWork (f := ZoneRecord.onBook (BookRecord.addMark u.noPartMark u.own)) (fun _ => rfl)
    { u with port := (u.port.setLatch .matchFail).append .matchFail u.workTag .none }

theorem isFor_iff (b : BookRecord) (e : PartEntry) : e.isFor b = true ↔ entryIsFor b e := by
  unfold PartEntry.isFor entryIsFor
  simp only [Bool.and_eq_true, Option.isSome_iff_ne_none, beq_iff_eq, and_assoc]

theorem matchAt_of_none {b : BookRecord} (h : ∀ e ∈ u.parts.magazine.take (u.lookahead + 1), ¬ entryIsFor b e) :
    u.matchAt b = none :=
  List.findIdx?_eq_none_iff.mpr fun e he => Bool.eq_false_iff.mpr (mt (isFor_iff b e).mp (h e he))

/-- The first match within the lookahead is found. -/
theorem matchAt_of_first {b : BookRecord} {k : Nat} {e : PartEntry} (hk : k ≤ u.lookahead)
    (he : u.parts.magazine[k]? = some e) (hfor : entryIsFor b e)
    (hbefore : ∀ j e', j < k → u.parts.magazine[j]? = some e' → ¬ entryIsFor b e') : u.matchAt b = some k := by
  have htake (j : Nat) (hj : j ≤ k) : (u.parts.magazine.take (u.lookahead + 1))[j]? = u.parts.magazine[j]? := by
    rw [List.getElem?_take, if_pos (by omega)]
  refine findIdx?_eq_some_iff_getElem?.mpr ⟨⟨e, ?_, (isFor_iff b e).mpr hfor⟩, fun j e' hj hget => ?_⟩
  · rw [htake k (Nat.le_refl k)]
    exact he
  · rw [htake j (Nat.le_of_lt hj)] at hget
    exact Bool.eq_false_iff.mpr (mt (isFor_iff b e').mp (hbefore j e' hj hget))

theorem match?_of_no_doubt (b : BookRecord) (h : u.parts.doubt = false) : u.match? b = match u.matchAt b with
    | none => u.noPart
    | some 0 => u.startMarry
    | some (i + 1) => State.startSkip true
        { u with work := { u.work with parts := .skipping, matchIndex := some (i + 1) } } :=
  if_neg (by rw [h]; decide)

theorem matched_match? (b : BookRecord) (u : State) : matched b u (u.match? b) := by
  refine ⟨fun h => ?_, fun e rest hdoubt hm => ⟨fun hfor => ?_, fun k e' hk hkle hget hfor hbefore => ?_⟩⟩
  · have hnone : u.match? b = u.noPart := by
      by_cases hd : u.parts.doubt = true
      · exact if_pos hd
      · rw [match?_of_no_doubt b (Bool.eq_false_iff.mpr hd), matchAt_of_none (h.resolve_left hd)]
    rw [hnone]
    exact noPartGiven_noPart u
  · have hfirst : u.matchAt b = some 0 := matchAt_of_first (Nat.zero_le _) (by rw [hm]; rfl) hfor nofun
    rw [match?_of_no_doubt b hdoubt, hfirst]
    exact marryBegins_startMarry hm
  · obtain ⟨i, rfl⟩ : ∃ i, k = i + 1 := ⟨k - 1, by omega⟩
    rw [match?_of_no_doubt b hdoubt, matchAt_of_first hkle hget hfor hbefore]
    exact skipBegins_startSkip (u := { u with work := { u.work with parts := .skipping, matchIndex := some (i + 1) } })
      hm true

/-- The end of a wait (R120, R121). -/
theorem waitEnds_afterWait (u : State) : waitEnds u u.afterWait := by
  unfold State.afterWait
  refine ⟨fun hp => ?_, fun hp => ⟨fun hbusy => ?_, fun hc hw z hz => ?_⟩⟩
  · rw [if_neg hp]
    exact housekept_judgeHousekeeping u
  · rw [if_pos hp]
    refine if_pos (hbusy.imp ?_ ?_) <;> exact Option.isSome_iff_ne_none.mpr
  · rw [if_pos hp, if_neg (by simp [hc, hw]), hz]
    dsimp only
    refine ⟨fun hv => ?_, fun hv => ?_⟩
    · rw [if_pos hv]
      exact partsEnd_partsDone u
    · rw [if_neg (by rw [hv]; decide)]
      exact matched_match? z.book u

end

/-! ### ROOM and VOID (O35) -/

theorem formatOf_eq (f : Byte) : formatOf f = if h : f.toNat < 16 then some ⟨f.toNat, h⟩ else none := rfl

theorem wantsVoid_iff (s : State) (l : Byte) : s.wantsVoid l = true ↔
    (s.role = some .case ∧ l.getLsbD 0 = true) ∨ (s.role = some .jacket ∧ l.getLsbD 1 = true) := by
  unfold State.wantsVoid
  simp only [Bool.or_eq_true, Bool.and_eq_true, beq_iff_eq]

/-- A void entry appended, the oldest of a full list being discarded first. -/
theorem addVoid_of_room (v : VoidEntry) {u : State} (h : u.parts.voids.length < 16) :
    housekept { u with parts.voids := u.parts.voids ++ [v] } (u.addVoid v) := by
  unfold State.addVoid
  dsimp only
  rw [if_pos (show u.parts.voids.length < Config.voidCap from h), if_pos (show u.parts.voids.length < Config.voidCap from h)]
  exact housekept_judgeHousekeeping _

theorem addVoid_of_full (v : VoidEntry) {u : State} {w : VoidEntry} {rest : List VoidEntry}
    (hv : u.parts.voids = w :: rest) (h : 16 ≤ u.parts.voids.length) :
    housekept { u with
      parts.voids := rest ++ [v], port := u.port.append .voidOverflow 0 (.value w.key.toNat) } (u.addVoid v) := by
  have hfull : ¬ u.parts.voids.length < Config.voidCap := Nat.not_lt.mpr h
  unfold State.addVoid
  dsimp only
  rw [if_neg hfull, if_neg hfull, hv]
  exact housekept_judgeHousekeeping _

section
variable {s t0 : State} {p : Pos}

theorem room_of_takes {o : Byte} (h : s.takesFrame p .room [o] t0) : exec (.room p o) s = .next
    (if (t0.silenceRestarted p).isForeign p then t0.silenceRestarted p
      else (t0.silenceRestarted p).setRoomHeard p (o.getLsbD 0)) := by
  have hreceive := receive_of_takes (fun u => if (u.restartSilence p).isForeign p then u.restartSilence p
    else (u.restartSilence p).setRoomHeard p (o.getLsbD 0)) h
  rw [restartSilence_eq] at hreceive
  exact congrArg Host.Outcome.next hreceive

theorem void_of_takes {key : Key} {f l : Byte} (h : s.takesFrame p .void (bytes3 key ++ [f, l]) t0) :
    exec (.void p key f l) s = .next
      (if (t0.silenceRestarted p).isForeign p ∨ key = 0 ∨ ¬ (t0.silenceRestarted p).wantsVoid l then
        t0.silenceRestarted p else (t0.silenceRestarted p).addVoid ⟨key, formatOf f⟩) := by
  have hreceive := receive_of_takes (fun u => if (u.restartSilence p).isForeign p ∨ key = 0 ∨
    ¬ (u.restartSilence p).wantsVoid l then u.restartSilence p else (u.restartSilence p).addVoid ⟨key, formatOf f⟩) h
  rw [restartSilence_eq] at hreceive
  exact congrArg Host.Outcome.next hreceive

end

/-- Settles O35: by whether the sender is foreign and the VOID is for this magazine. -/
theorem roomAndVoidReachTheirTables : Obligations.RoomAndVoidReachTheirTables := by
  intro p o f l key s t0
  refine ⟨fun h => ?_, fun h => ?_⟩
  all_goals
    obtain ⟨b, rfl⟩ : ∃ b, t0 = { s with bus := b } := ⟨_, (takesFrame_frame h).1⟩
    obtain ⟨silence, hsilence⟩ : ∃ v, ({ s with bus := b } : State).silenceRestarted p =
      { s with bus := b, mem.silence := v } := ⟨_, silenceRestarted_frame p _⟩
  · rw [room_of_takes h, hsilence]
    rfl
  · rw [void_of_takes h, hsilence]
    have hwants := wantsVoid_iff { s with bus := b, mem.silence := silence } l
    refine ⟨fun hnot => congrArg Host.Outcome.next (if_pos ?_), fun hnamed hkey hf => ?_⟩
    · rcases hnot with hnot | hkey | hf
      · exact .inr (.inr (mt hwants.mp hnot))
      · exact .inr (.inl hkey)
      · exact .inl hf
    · have hforeign : ¬ ({ s with bus := b, mem.silence := silence } : State).isForeign p = true := by
        rw [show ({ s with bus := b, mem.silence := silence } : State).isForeign p = (s.mem.members[p]).foreign from rfl, hf]
        decide
      rw [if_neg fun h => h.elim hforeign fun h => h.elim hkey fun h => h (hwants.mpr hnamed), formatOf_eq]
      exact ⟨fun hroom => ⟨_, rfl, addVoid_of_room (u := { s with bus := b, mem.silence := silence }) _ hroom⟩,
        fun v rest hv hfull => ⟨_, rfl, addVoid_of_full (u := { s with bus := b, mem.silence := silence }) _ hv hfull⟩⟩

end Sys2Proof.Machine

namespace Sys2Proof.Machine

/-! ### Membership timers (O38) -/

theorem queue_eq_queueOverrun (n : Notice) {s : State} (ha : s.isActive) (hq : 16 ≤ s.bus.txq.length) :
    s.queue n = queueOverrun n.kind s :=
  (queue_of_full n s ha (Nat.not_lt.mpr hq)).trans (if_pos ha)

theorem absentWaits_iff (s : State) (p : Pos) : s.absentWaits p = true ↔ ∃ e ∈ s.bus.txq, e.notice = .absent p := by
  unfold State.absentWaits
  simp only [List.any_eq_true, beq_iff_eq]

theorem beaconWaits_iff (s : State) : s.beaconWaits = true ↔ ∃ e ∈ s.bus.txq, e.notice = .beacon := by
  unfold State.beaconWaits
  simp only [List.any_eq_true, beq_iff_eq]

/-- Settles O38: whether the notice waits already, and whether a place is free. -/
theorem timersAnnounceOnce : Obligations.TimersAnnounceOnce := by
  intro p s
  refine ⟨fun ha hsilence => ?_, fun hrun htimer => ?_, fun ha hq n => queue_eq_queueOverrun n ha hq⟩
  · have hexec : exec (.silenceTimerExpiry p) s = .next (s.silenceExpires p) :=
      congrArg Host.Outcome.next (if_pos ⟨ha, Option.isSome_iff_ne_none.mpr hsilence⟩)
    dsimp only
    rw [hexec]
    refine ⟨fun hwaits => congrArg Host.Outcome.next (if_pos ((absentWaits_iff _ p).mpr hwaits)), fun hnone => ?_⟩
    have hqueue : s.silenceExpires p = State.queue (.absent p) { s with mem.silence := s.mem.silence.set p.val none p.isLt } :=
      if_neg (mt (absentWaits_iff _ p).mp fun ⟨e, he, hn⟩ => hnone e he hn)
    rw [hqueue]
    exact ⟨fun hq => congrArg Host.Outcome.next (queue_of_room _ _ ha hq),
      fun hq => congrArg Host.Outcome.next (queue_eq_queueOverrun (.absent p)
        (s := { s with mem.silence := s.mem.silence.set p.val none p.isLt }) ha hq)⟩
  · have hexec : exec .beaconTimerExpiry s = .next s.beaconExpires :=
      congrArg Host.Outcome.next (if_pos ⟨hrun, Option.isSome_iff_ne_none.mpr htimer⟩)
    dsimp only
    rw [hexec]
    refine ⟨fun hwaits => congrArg Host.Outcome.next (if_pos ((beaconWaits_iff _).mpr hwaits)), fun hnone => ?_⟩
    have hqueue : s.beaconExpires = State.queue .beacon { s with mem.beaconTimer := some s.beaconPeriod } :=
      if_neg (mt (beaconWaits_iff _).mp fun ⟨e, he, hn⟩ => hnone e he hn)
    rw [hqueue]
    exact ⟨fun hq => congrArg Host.Outcome.next (queue_of_room _ _ (.inr hrun) hq),
      fun hq => congrArg Host.Outcome.next (queue_eq_queueOverrun .beacon
        (s := { s with mem.beaconTimer := some s.beaconPeriod }) (.inr hrun) hq)⟩

/-! ### The end of the join window (O39) -/

/-- Nothing is asked for and nothing skipped where no part and no claim is due. -/
theorem nothing_follows {u : State} (hm : u.parts.magazine = []) (hp : u.heat.pendingBook = false)
    (hd : u.heat.due = false) : (u.andThen State.judgeHousekeeping).andThen State.claimsOpen = u := by
  have hkeep : u.judgeKeepwarm = u := (warmthAsked_judgeKeepwarm u).2 fun h => by
    obtain ⟨-, -, -, -, hdue, -⟩ := h
    rw [hd] at hdue
    cases hdue
  have hclaims : u.claimsOpen = u := by
    unfold State.claimsOpen
    rw [tryPending_of_not fun h => by rw [hp] at h; cases h.1]
    unfold State.andThen
    rw [hkeep, ite_self]
  unfold State.andThen
  rw [judgeHousekeeping_of_empty hm, ite_self, hclaims, ite_self]

/-- RUNNING entered, with the levels found (R75), before the BEACON is asked for. -/
def State.runningEntered (pins : InputPins) (s : State) : State :=
  { s with
    mem.station := .running
    mem.joinWindow := none
    mem.beaconTimer := some s.beaconPeriod
    mem.guardOpen := !pins.guard
    zt.eyes := s.eyesFound pins
    work.doneOn := s.hasMagazine && pins.done
    port := s.port.append .running 0 .none }

theorem enterRunning_eq (pins : InputPins) {s : State} (hq : s.bus.txq.length < Config.txqCap) :
    s.enterRunning pins = ((State.andThen { s.runningEntered pins with bus.txq := s.bus.txq ++ [⟨.beacon, 0⟩] }
      fun t => if t.mem.guardOpen then t.addGuard else t).andThen State.judgeHousekeeping).andThen State.claimsOpen :=
  congrArg (fun u : State => ((u.andThen fun t => if t.mem.guardOpen then t.addGuard else t).andThen
    State.judgeHousekeeping).andThen State.claimsOpen) (queue_of_room .beacon (s.runningEntered pins) (.inr rfl) hq)

theorem addGuard_of_room {u : State} (hr : u.isActive) (hg : u.mem.ownStop.guard = false)
    (hq : u.bus.txq.length < Config.txqCap) : u.addGuard = { u with
      mem.ownStop := { u.mem.ownStop with guard := true }
      bus.txq := u.bus.txq ++ [⟨.stop { u.mem.ownStop with guard := true }, 0⟩]
      port := u.port.append .ownStop 0 (.value (Reasons.toNat { u.mem.ownStop with guard := true })) } := by
  have hne : ({ u.mem.ownStop with guard := true } : Reasons) ≠ u.mem.ownStop := fun h => by
    rw [← h] at hg
    cases hg
  exact setOwnStop_of_change hr hq hne

/-- A polarity of 1 is light-on (R54). -/
theorem toNat_beq_one (w : W16) : (w.toNat == 1) = (w == 1) := by
  rw [Bool.eq_iff_iff, beq_iff_eq, beq_iff_eq]
  exact ⟨fun h => BitVec.eq_of_toNat_eq h, fun h => by rw [h]; rfl⟩

theorem eyesFound_eq (s : State) (pins : InputPins) : s.eyesFound pins =
    { entry := pins.entry != (s.params.station[(2 : Fin 20)] == 1)
      work := pins.work != (s.params.station[(3 : Fin 20)] == 1)
      exit := pins.exit != (s.params.station[(4 : Fin 20)] == 1)
      fourth := decide ((s.role = some .case ∨ s.role = some .jacket) ∨ s.role = some .gate) &&
        (pins.fourth != (s.params.station[(5 : Fin 20)] == 1)) } := by
  have hfourth : s.hasFourthEye = decide ((s.role = some .case ∨ s.role = some .jacket) ∨ s.role = some .gate) := by
    rw [Bool.eq_iff_iff, decide_eq_true_iff, ← hasMagazine_iff]
    unfold State.hasFourthEye
    rw [Bool.or_eq_true, beq_iff_eq]
  unfold State.eyesFound blocked State.stationParam
  rw [hfourth]
  simp only [toNat_beq_one]

theorem hasMagazine_eq (s : State) : s.hasMagazine = decide (s.role = some .case ∨ s.role = some .jacket) := by
  rw [Bool.eq_iff_iff, decide_eq_true_iff, hasMagazine_iff]

/-- Settles O39: RUNNING entered, and GUARD added where the guard is found open. -/
theorem joinWindowEndEntersRunning : Obligations.JoinWindowEndEntersRunning := by
  intro pins s hj hw hlaw hguard hpending hdue hq
  obtain ⟨-, hm, -⟩ := hlaw hj
  have hexec : exec (.joinWindowEnd pins) s = .next (s.enterRunning pins) :=
    congrArg Host.Outcome.next (if_pos ⟨hj, Option.isSome_iff_ne_none.mpr hw⟩)
  have hroom : s.bus.txq.length < Config.txqCap := Nat.lt_of_le_of_lt hq (by decide)
  have hlen : (s.bus.txq ++ [(⟨.beacon, 0⟩ : TxEntry)]).length < Config.txqCap := by
    rw [List.length_append]
    exact Nat.lt_of_le_of_lt (Nat.add_le_add_right hq 1) (by decide)
  dsimp only
  rw [hexec, enterRunning_eq pins hroom]
  have hrunning : (⟨.running, 0, .none, s.port.stamp⟩ : JournalEntry) ∈ (s.port.append .running 0 .none).journal :=
    List.mem_of_getLast? (append_journal_getLast? _ _ _ _)
  rw [andThen_of_active (s := { s.runningEntered pins with bus.txq := s.bus.txq ++ [⟨.beacon, 0⟩] }) _ (.inr rfl)]
  cases hpin : pins.guard with
  | true =>
    have hstays : ({ s.runningEntered pins with bus.txq := s.bus.txq ++ [⟨.beacon, 0⟩] } : State).mem.guardOpen =
        false := congrArg (fun b => !b) hpin
    have hreasons : ({ s.mem.ownStop with guard := !true } : Reasons) = s.mem.ownStop := by
      rw [Bool.not_true, ← hguard]
    rw [if_neg (by rw [hstays]; decide), nothing_follows (by exact hm) (by exact hpending) (by exact hdue), hreasons]
    refine ⟨_, rfl, ?_, ?_, ?_, ?_, hrunning, rfl⟩
    · rw [← hpin]
      rfl
    · rw [← eyesFound_eq]
      rfl
    · rw [← hasMagazine_eq]
      rfl
    · rw [if_pos rfl, List.append_nil]
      rfl
  | false =>
    have hopens : ({ s.runningEntered pins with bus.txq := s.bus.txq ++ [⟨.beacon, 0⟩] } : State).mem.guardOpen =
        true := congrArg (fun b => !b) hpin
    rw [if_pos hopens, addGuard_of_room (.inr rfl) (by exact hguard) (by exact hlen),
      nothing_follows (by exact hm) (by exact hpending) (by exact hdue)]
    refine ⟨_, rfl, ?_, ?_, ?_, ?_, ?_, rfl⟩
    · exact congrArg (fun b : Bool => { s.mem with
        station := .running, joinWindow := none, beaconTimer := some s.beaconPeriod, guardOpen := !b
        ownStop := { s.mem.ownStop with guard := true } }) hpin
    · rw [← eyesFound_eq]
      rfl
    · rw [← hasMagazine_eq]
      rfl
    · rfl
    · exact mem_append_of_newest _ _ _ (append_journal_getLast? _ _ _ _)

end Sys2Proof.Machine

namespace Sys2Proof.Machine

/-! ### A HANDOVER (O34) -/

/-- A change of the first record picked is known by what it makes of that record. -/
theorem mapFirst_congr_of_find {α : Type} {p : α → Bool} {f g : α → α} {l : List α} {z : α}
    (hz : l.find? p = some z) (h : f z = g z) : mapFirst p f l = mapFirst p g l := by
  induction l with
  | nil => rfl
  | cons x xs ih =>
    by_cases hx : p x = true
    · rw [List.find?_cons_of_pos hx] at hz
      obtain rfl := Option.some.inj hz
      simp only [mapFirst, hx, if_true, h]
    · rw [List.find?_cons_of_neg hx] at hz
      simp only [mapFirst, hx, if_false, ih hz, Bool.false_eq_true]

theorem lengthFails_iff (s : State) (b : BookRecord) (mm : Nat) : s.lengthFails b mm = true ↔ lengthOff s b mm := by
  unfold State.lengthFails lengthOff lengthPasses State.formatEntry
  cases b.format with
  | none => simp
  | some f =>
    simp only [Option.any_some, Bool.not_eq_true', Bool.and_eq_false_iff, decide_eq_false_iff_not, Option.mem_def,
      Option.some.injEq, exists_eq_left', Nat.not_le]

theorem holdsTag_iff (s : State) (tag : W16) : s.holdsTag tag = true ↔
    (∃ z ∈ s.zt.zone, z.book.tag = tag) ∨ ∃ r ∈ s.zt.incoming, r.book.tag = tag := by
  unfold State.holdsTag
  simp only [Bool.or_eq_true, List.any_eq_true, beq_iff_eq]

/-- The port once a record was dropped (R86). -/
def State.droppedPort (k : JournalKind) (d : Detail) (b : BookRecord) (u : State) : PortUnit :=
  (u.port.append k b.tag d).setLatch .recordDropped

theorem droppedPort_spec (k : JournalKind) (d : Detail) (b : BookRecord) (u : State) :
    (u.droppedPort k d b).latches[(2 : Fin 17)] = true ∧
    (u.droppedPort k d b).journal.getLast? = some ⟨k, b.tag, d, u.port.stamp⟩ := by
  refine ⟨by simp [State.droppedPort, PortUnit.setLatch, Latch.index], append_journal_getLast? _ _ _ _⟩

theorem drop_of_room (k : JournalKind) (d : Detail) (b : BookRecord) {u : State} (ha : u.isActive)
    (hq : u.bus.txq.length < Config.txqCap) :
    u.drop k d b = { u with bus.txq := u.bus.txq ++ voidNotices b, port := u.droppedPort k d b } :=
  voidFor_of_room b (s := (u.log k b.tag d).latch .recordDropped) ha hq

/-- The port once a taken record is found out of time (R82). -/
def takenPort (b : BookRecord) (p : PortUnit) : PortUnit :=
  if b.openTime = some 0 then (p.setLatch .openTime).append .openTime b.tag .none else p

theorem noteTaking_eq (b : BookRecord) (u : State) : u.noteTaking b = { u with port := takenPort b u.port } := by
  unfold State.noteTaking takenPort
  split <;> rfl

section
variable {u : State} {b : BookRecord}

/-- A tag that is held already (R62). -/
def State.holdsBook (b : BookRecord) (u : State) : Prop :=
  b.tag ≠ 0 ∧ ((∃ z ∈ u.zt.zone, z.book.tag = b.tag) ∨ ∃ r ∈ u.zt.incoming, r.book.tag = b.tag)

theorem holdsBook_iff : (b.tag ≠ 0 ∧ u.holdsTag b.tag = true) ↔ u.holdsBook b := by
  rw [holdsTag_iff]
  rfl

theorem takeHandover_of_held (h : u.holdsBook b) : u.takeHandover b = u.drop .duplicate .none b :=
  if_pos (holdsBook_iff.mpr h)

theorem takeHandover_of_adoptable (h : ¬ u.holdsBook b) {z : ZoneRecord}
    (hz : u.zt.zone.find? ZoneRecord.adoptable = some z) : u.takeHandover b = u.adoptInto z b := by
  unfold State.takeHandover
  rw [if_neg (mt holdsBook_iff.mp h), hz]

theorem takeHandover_of_none (h : ¬ u.holdsBook b) (hz : u.zt.zone.find? ZoneRecord.adoptable = none) :
    u.takeHandover b = if Config.incomingCap ≤ u.zt.incoming.length then u.drop .incomingOverrun .none b
      else ((u.placeIncoming b).judgeRoom).andThen State.judgeKeepwarm := by
  unfold State.takeHandover
  rw [if_neg (mt holdsBook_iff.mp h), hz]

/-- A record adopted into one whose own length is still measured (R63). -/
theorem adoptInto_of_unmeasured {z : ZoneRecord} (hz : u.zt.zone.find? ZoneRecord.adoptable = some z)
    (hl : z.book.length = none) : u.adoptInto z b = { u with
      zt.zone := mapFirst ZoneRecord.adoptable
        (fun y => { y with book := b.onTaking u.own, adoption := none, step := 0 }) u.zt.zone
      port := takenPort b (u.port.append .adopted b.tag .none) } := by
  have hadopt : mapFirst ZoneRecord.adoptable (ZoneRecord.adopt (b.onTaking u.own)) u.zt.zone = mapFirst ZoneRecord.adoptable
      (fun y => { y with book := b.onTaking u.own, adoption := none, step := 0 }) u.zt.zone :=
    mapFirst_congr_of_find hz (by simp only [ZoneRecord.adopt, hl]; rfl)
  unfold State.adoptInto
  dsimp only
  rw [hl]
  simp only [State.deferredFails, Option.any_none]
  simp only [Bool.false_eq_true, if_false]
  rw [hadopt, noteTaking_eq]
  rfl

/-- A record adopted into one that has its own length: the length stays and is checked (R63, R66). -/
theorem adoptInto_of_measured {z : ZoneRecord} {mm : Nat} (hz : u.zt.zone.find? ZoneRecord.adoptable = some z)
    (hl : z.book.length = some mm) : u.adoptInto z b = { u with
      zt.zone := mapFirst ZoneRecord.adoptable
        (fun y => { y with
          book := if u.lengthFails b mm then
            BookRecord.addMark .length u.own { b.onTaking u.own with length := some mm }
            else { b.onTaking u.own with length := some mm }
          adoption := none, step := 0 }) u.zt.zone
      port := if u.lengthFails b mm then
        ((takenPort b (u.port.append .adopted b.tag .none)).setLatch .lengthFault).append .length b.tag (.value mm)
        else takenPort b (u.port.append .adopted b.tag .none) } := by
  unfold State.adoptInto
  dsimp only
  rw [hl]
  simp only [State.deferredFails, Option.any_some, Option.getD_some]
  by_cases hfails : u.lengthFails b mm = true
  · have hadopt : mapFirst ZoneRecord.adoptable (ZoneRecord.adopt ((b.onTaking u.own).addMark .length u.own)) u.zt.zone =
        mapFirst ZoneRecord.adoptable (fun y => { y with
          book := BookRecord.addMark .length u.own { b.onTaking u.own with length := some mm }
          adoption := none, step := 0 }) u.zt.zone :=
      mapFirst_congr_of_find hz (by simp only [ZoneRecord.adopt, hl]; rfl)
    simp only [hfails, if_true]
    rw [hadopt, noteTaking_eq]
    rfl
  · have hadopt : mapFirst ZoneRecord.adoptable (ZoneRecord.adopt (b.onTaking u.own)) u.zt.zone =
        mapFirst ZoneRecord.adoptable (fun y => { y with
          book := { b.onTaking u.own with length := some mm }, adoption := none, step := 0 }) u.zt.zone :=
      mapFirst_congr_of_find hz (by simp only [ZoneRecord.adopt, hl]; rfl)
    simp only [hfails, if_false, Bool.false_eq_true]
    rw [hadopt, noteTaking_eq]
    rfl

theorem placeIncoming_eq : u.placeIncoming b = { u with
    zt.incoming := u.zt.incoming ++ [⟨b.onTaking u.own, u.transitCounts, 0⟩], port := takenPort b u.port } :=
  noteTaking_eq _ _

/-- A record placed in the incoming list: the room follows and keep-warm is judged. -/
theorem placeIncoming_spec (ha : u.isActive) (hq : u.bus.txq.length ≤ 14) : ∃ v t,
    ((u.placeIncoming b).judgeRoom).andThen State.judgeKeepwarm = t ∧ warmthAsked v t ∧ roomFollows [] u v ∧
    v = { u with
      zt := { u.zt with
        incoming := u.zt.incoming ++ [⟨b.onTaking u.own, u.transitCounts, 0⟩]
        roomOpen := v.zt.roomOpen, announced := v.zt.announced }
      bus := v.bus, port := takenPort b u.port } := by
  have heq := judgeRoom_of_room (s := u.placeIncoming b) (by rw [placeIncoming_eq]; exact ha)
    (by rw [placeIncoming_eq]; exact Nat.lt_of_le_of_lt hq (by decide))
  have hactive : (u.placeIncoming b).judgeRoom.isActive := by
    rw [heq, placeIncoming_eq]
    exact ha
  refine ⟨(u.placeIncoming b).judgeRoom, _, andThen_of_active _ hactive, warmthAsked_judgeKeepwarm _, ?_, ?_⟩
  · refine roomFollows_of_eq (u := u.placeIncoming b) ?_ ?_ ?_
    · rw [placeIncoming_eq]
      exact ⟨rfl, rfl, rfl, rfl, rfl, rfl⟩
    · rw [heq]
    · rw [heq, List.append_nil]
  · rw [heq, placeIncoming_eq]

end

end Sys2Proof.Machine

namespace Sys2Proof.Machine

/-- The state in which a notice is taken: the bus has gone on, and the sender was heard. -/
def State.hearing (bus : LineBus) (silence : Vector (Option Nat) 16) (s : State) : State :=
  { s with bus := bus, mem.silence := silence }

/-- A HANDOVER taken off the bus: what each station does with it, in the state that heard the sender. -/
theorem handover_of_takes {p q : Pos} {image : RecordImage} {s t0 : State}
    (h : s.takesFrame p .handover (byteOfPos q :: image.toList) t0) :
    exec (.handover p (byteOfPos q) image) s = .next
      (if p = s.own then (t0.silenceRestarted p).ownHandover q (recordOf image)
      else if q = s.own ∧ (s.mem.members[p]).foreign = false then (t0.silenceRestarted p).takeHandover (recordOf image)
      else t0.silenceRestarted p) := by
  have hreceive := receive_of_takes (fun u =>
    if p = u.own then (u.restartSilence p).ownHandover q (recordOf image)
    else if q = u.own ∧ ¬ (u.restartSilence p).isForeign p then (u.restartSilence p).takeHandover (recordOf image)
    else u.restartSilence p) h
  refine congrArg Host.Outcome.next (Eq.trans ?_ (hreceive.trans ?_))
  · unfold State.handoverEffect
    rw [posOfByte_byteOfPos]
    rfl
  · obtain ⟨b, rfl⟩ : ∃ b, t0 = { s with bus := b } := ⟨_, (takesFrame_frame h).1⟩
    simp only [restartSilence_eq, State.isForeign, silenceRestarted_members, Bool.not_eq_true]
    rfl

theorem find?_adoptable_eq_none {l : List ZoneRecord} (h : ∀ y ∈ l, y.adoption = none) :
    l.find? ZoneRecord.adoptable = none := by
  rw [List.find?_eq_none]
  intro y hy
  rw [ZoneRecord.adoptable, h y hy]
  decide

/-- The port once a record is taken, with the length of the provisional record checked (R63, R66, R82). -/
theorem adoptInto_spec {u : State} {b : BookRecord} {z : ZoneRecord}
    (hz : u.zt.zone.find? ZoneRecord.adoptable = some z) :
    let takes (book : BookRecord) (port : PortUnit) : Prop := u.adoptInto z b = { u with
      zt.zone := mapFirst ZoneRecord.adoptable (fun y => { y with book := book, adoption := none, step := 0 }) u.zt.zone
      port := port }
    let port := takenPort b (u.port.append .adopted b.tag .none)
    (z.book.length = none → takes (b.onTaking u.own) port) ∧
    ∀ mm, z.book.length = some mm →
      let kept : BookRecord := { b.onTaking u.own with length := some mm }
      (¬ lengthOff u b mm → takes kept port) ∧
      (lengthOff u b mm → takes (kept.addMark .length u.own)
        ((port.setLatch .lengthFault).append .length b.tag (.value mm))) := by
  refine ⟨adoptInto_of_unmeasured hz, fun mm hl => ⟨fun hoff => ?_, fun hoff => ?_⟩⟩
  · have hfails := mt (lengthFails_iff u b mm).mp hoff
    refine (adoptInto_of_measured hz hl).trans ?_
    simp only [hfails, Bool.false_eq_true, if_false]
  · have hfails := (lengthFails_iff u b mm).mpr hoff
    refine (adoptInto_of_measured hz hl).trans ?_
    simp only [hfails, if_true]

/-- Settles O34: by the sender, the target, and what the target holds. -/
theorem handoversAreTakenOrUndelivered : Obligations.HandoversAreTakenOrUndelivered := by
  refine ⟨fun p q image s t0 hp h => ?_, fun q image s t0 h => ?_⟩
  · have hexec := handover_of_takes h
    obtain ⟨bus, rfl⟩ : ∃ b, t0 = { s with bus := b } := ⟨_, (takesFrame_frame h).1⟩
    obtain ⟨silence, hsilence⟩ : ∃ v, ({ s with bus := bus } : State).silenceRestarted p =
        s.hearing bus v := ⟨_, silenceRestarted_frame p { s with bus := bus }⟩
    rw [if_neg hp, hsilence] at hexec
    dsimp only
    rw [hsilence]
    refine ⟨fun hnot => hexec.trans (congrArg _ (if_neg ?_)), fun hq hf ha hroom => ?_⟩
    · rintro ⟨hq, hf⟩
      exact hnot.elim (fun hne => hne hq) (fun hforeign => by rw [hf] at hforeign; cases hforeign)
    rw [if_pos ⟨hq, hf⟩] at hexec
    have hfree : bus.txq.length < Config.txqCap := Nat.lt_of_le_of_lt hroom (by decide)
    have hdrop (k : JournalKind) : _ := drop_of_room k .none (recordOf image)
      (u := s.hearing bus silence) ha hfree
    refine ⟨fun hheld => ?_, fun z hheld hz => ?_, fun hheld hnone hfull => ?_, fun hheld hnone hplace => ?_⟩
    · rw [takeHandover_of_held (u := s.hearing bus silence) hheld, hdrop] at hexec
      exact ⟨_, hexec, rfl, rfl, (droppedPort_spec _ _ _ _).1, (droppedPort_spec _ _ _ _).2, rfl⟩
    · rw [takeHandover_of_adoptable (u := s.hearing bus silence) hheld hz] at hexec
      rw [hexec]
      obtain ⟨hun, hmeas⟩ := adoptInto_spec (u := s.hearing bus silence) (b := recordOf image) hz
      refine ⟨fun hl => congrArg Host.Outcome.next (hun hl), fun mm hl => ?_⟩
      exact ⟨fun hoff => congrArg Host.Outcome.next ((hmeas mm hl).1 hoff),
        fun hoff => congrArg Host.Outcome.next ((hmeas mm hl).2 hoff)⟩
    · rw [takeHandover_of_none (u := s.hearing bus silence) hheld (find?_adoptable_eq_none hnone),
        if_pos (show Config.incomingCap ≤ (s.hearing bus silence).zt.incoming.length from hfull), hdrop] at hexec
      exact ⟨_, hexec, rfl, rfl, (droppedPort_spec _ _ _ _).1, (droppedPort_spec _ _ _ _).2, rfl⟩
    · rw [takeHandover_of_none (u := s.hearing bus silence) hheld (find?_adoptable_eq_none hnone), 
        if_neg (show ¬ Config.incomingCap ≤ (s.hearing bus silence).zt.incoming.length from Nat.not_le.mpr hplace)] at hexec
      obtain ⟨v, t, hplaced, hwarm, hfollows, hframe⟩ := placeIncoming_spec
        (u := s.hearing bus silence) (b := recordOf image) ha hroom
      rw [hplaced] at hexec
      exact ⟨v, t, hexec, hwarm, hfollows, hframe⟩
  · have hexec := handover_of_takes h
    obtain ⟨bus, rfl⟩ : ∃ b, t0 = { s with bus := b } := ⟨_, (takesFrame_frame h).1⟩
    rw [if_pos rfl, show ({ s with bus := bus } : State).silenceRestarted s.own = { s with bus := bus } from
      silenceRestarted_own _] at hexec
    refine ⟨fun hgone => hexec.trans (congrArg _ (if_neg hgone)), fun hgone ha hroom => ?_⟩
    refine ⟨State.droppedPort .undelivered (.value (posNumber q)) (recordOf image) { s with bus := bus }, ?_, ?_⟩
    · refine hexec.trans (congrArg _ ((if_pos hgone).trans ?_))
      exact drop_of_room (u := { s with bus := bus }) _ _ _ ha (Nat.lt_of_le_of_lt hroom (by decide))
    · exact droppedPort_spec _ _ _ _

end Sys2Proof.Machine

namespace Sys2Proof.Machine

/-! ### The feed eye (O50) -/

section
variable {s : State}

theorem onEdge_named (f g : State → State) (h : s.mem.station = .running) : s.onEdge .named f g = f s := if_pos h

theorem onEdge_opposite (f g : State → State) (h : s.mem.station = .running) : s.onEdge .opposite f g = g s := if_pos h

theorem validFormat_eq (s : State) (f : Byte) : s.validFormat f = formatNamed s f := by
  unfold State.validFormat formatNamed
  rw [formatOf_eq]
  by_cases hf : f.toNat < 16
  · rw [dif_pos hf, dif_pos hf, Option.filter_some]
    exact if_congr beq_iff_eq rfl rfl
  · rw [dif_neg hf, dif_neg hf]
    rfl

/-- A set of own stop reasons that is not empty (R97). -/
theorem setOwnStop_withReasons {r : Reasons} (hr : r.isEmpty = false) (ha : s.isActive)
    (hq : s.bus.txq.length < Config.txqCap) : s.setOwnStop r = withReasons r s := by
  by_cases hsame : r = s.mem.ownStop
  · rw [setOwnStop_same r s hsame]
    exact (if_pos hsame).symm
  · rw [setOwnStop_of_change ha hq hsame, hr]
    exact (if_neg hsame).symm

theorem feedEye_of_magazine (edge : InputEdge)
    (hrole : s.role = some .case ∨ s.role = some .jacket) : exec (.feedEyeLeadingEdge edge) s = .next
      (s.onEdge edge (fun t => State.partArrives { t with zt.eyes.fourth := true }) State.fourthClear) :=
  congrArg Host.Outcome.next (if_pos ((hasMagazine_iff s).mpr hrole))

/-- The list with the part appended, its standings not judged yet. -/
def State.withPart (key : Option Key) (format : Option FormatIx) (waiting : Bool) (u : State) : State := { u with
  parts.magazine := u.parts.magazine ++ [⟨u.parts.arrival, key, format, waiting⟩]
  parts.arrival := u.parts.arrival + 1 }

/-- The part is appended, its standings judged, and the latch MAG_HIGH set where that standing is new (R105, R110). -/
theorem appendPart_spec (key : Option Key) (format : Option FormatIx) (waiting : Bool) {u : State} {n : Nat}
    (hn : u.parts.magazine.length = n) :
    let v := u.appendPart key format waiting
    v.parts = { u.parts with
      magazine := u.parts.magazine ++ [⟨u.parts.arrival, key, format, waiting⟩], arrival := u.parts.arrival + 1
      high := v.parts.high, low := v.parts.low } ∧
    (v.parts.high = true ↔ 23 - n ≤ u.highOffset) ∧
    (v.parts.low = true ↔ n + 1 ≤ u.lowOffset) ∧
    (v.parts.high = true → u.parts.high = false → v.port.latches[(6 : Fin 17)] = true) ∧
    v.port.journal = u.port.journal ∧
    v = { u with parts := v.parts, port := v.port } := by
  intro v
  have hlength : (u.withPart key format waiting).parts.magazine.length = n + 1 := by
    rw [State.withPart, List.length_append, hn]
    rfl
  have hv : v = _ := judgeThresholds_eq (u.withPart key format waiting)
  rw [hlength] at hv
  have hhigh : v.parts.high = decide (24 - (n + 1) ≤ u.highOffset) := by
    rw [hv]
    rfl
  have hlow : v.parts.low = decide (n + 1 ≤ u.lowOffset) := by
    rw [hv]
    rfl
  refine ⟨by rw [hv]; rfl, ?_, ?_, judgeThresholds_high_latch (u := u.withPart key format waiting),
    judgeThresholds_journal (u.withPart key format waiting), by rw [hv]; rfl⟩
  · rw [hhigh, decide_eq_true_iff, show 24 - (n + 1) = 23 - n by omega]
  · rw [hlow, decide_eq_true_iff]

theorem magazineOverrun_of_doubt (h : s.parts.doubt = true) : s.magazineOverrun =
    { s with port := (s.port.setLatch .magOverrun).append .magOverrun 0 .none } := if_pos h

theorem magazineOverrun_of_no_doubt (ha : s.isActive) (hq : s.bus.txq.length < Config.txqCap)
    (h : s.parts.doubt = false) : s.magazineOverrun = withReasons { s.mem.ownStop with magOverrun := true }
    { s with port := (s.port.setLatch .magOverrun).append .magOverrun 0 .none, parts.doubt := true } := by
  have hdoubt : ¬ s.parts.doubt = true := by
    rw [h]
    decide
  have hset : s.magazineOverrun = State.setOwnStop { s.mem.ownStop with magOverrun := true }
    { s with port := (s.port.setLatch .magOverrun).append .magOverrun 0 .none, parts.doubt := true } := if_neg hdoubt
  rw [hset]
  refine setOwnStop_withReasons ?_ ha hq
  exact Bool.eq_false_iff.mpr fun h => absurd (congrArg Reasons.magOverrun ((isEmpty_iff _).mp h)) Bool.noConfusion

theorem partArrives_of_full (h : 24 ≤ s.parts.magazine.length) : s.partArrives = s.magazineOverrun := if_pos h

/-- A part arrives with its ID in the slot. -/
theorem partArrives_of_slot (h : s.parts.magazine.length < 24) {i : PartId} (hslot : s.rd.slot = some i) :
    s.partArrives = (State.appendPart (some i.key) (formatNamed s i.format) false
      { s with rd := { s.rd with slot := none } }).judgeHousekeeping := by
  unfold State.partArrives
  rw [if_neg (show ¬ Config.magazineCap ≤ s.parts.magazine.length from Nat.not_le.mpr h), hslot, ← validFormat_eq]

/-- A part arrives without its ID. -/
theorem partArrives_of_no_slot (h : s.parts.magazine.length < 24) (hslot : s.rd.slot = none) :
    s.partArrives = (State.appendPart none none true
      { s.blankWaiting with rd.window := some s.readWindowMs }).judgeHousekeeping := by
  unfold State.partArrives
  rw [if_neg (show ¬ Config.magazineCap ≤ s.parts.magazine.length from Nat.not_le.mpr h), hslot]

theorem blankWaiting_of_none (h : ∀ e ∈ s.parts.magazine, e.waiting = false) : s.blankWaiting = s := by
  have hnone : s.parts.magazine.find? PartEntry.waiting = none :=
    List.find?_eq_none.mpr fun e he => by rw [h e he]; decide
  unfold State.blankWaiting
  rw [hnone]

theorem blankWaiting_of_waiting {e : PartEntry} (h : s.parts.magazine.find? PartEntry.waiting = some e) :
    s.blankWaiting = { s with
      parts.magazine := s.parts.magazine.map fun e => { e with waiting := false }
      port := s.port.append .blankEntry 0 (.value e.arrival.toNat) } := by
  unfold State.blankWaiting
  rw [h]
  rfl

end

/-- The magazine once its feed eye saw a part, before it is appended. -/
def State.fed (blanked : List PartEntry) (rd : Reader) (port : PortUnit) (s : State) : State :=
  { s with zt.eyes.fourth := true, parts.magazine := blanked, rd := rd, port := port }

/-- Settles O50: by the place in the list, the slot, and the entry that waits. -/
theorem feedEdgesAppendParts : Obligations.FeedEdgesAppendParts := by
  intro s hrun hrole
  have hedge := feedEye_of_magazine .named hrole
  rw [onEdge_named _ _ hrun] at hedge
  refine ⟨?_, fun hfull => ?_, fun hroom => ?_⟩
  · rw [feedEye_of_magazine .opposite hrole, onEdge_opposite _ _ hrun]
    rfl
  · rw [hedge, partArrives_of_full (s := { s with zt.eyes.fourth := true }) hfull]
    refine ⟨fun hdoubt => ?_, fun hdoubt hq => ?_⟩
    · rw [magazineOverrun_of_doubt (s := { s with zt.eyes.fourth := true }) hdoubt]
    · rw [magazineOverrun_of_no_doubt (s := { s with zt.eyes.fourth := true }) (.inr hrun) hq hdoubt]
  · have happended {key : Option Key} {format : Option FormatIx} {waiting : Bool} {blanked : List PartEntry}
        {rd : Reader} {port : PortUnit} (hlength : blanked.length = s.parts.magazine.length)
        (harrives : State.partArrives { s with zt.eyes.fourth := true } =
          ((s.fed blanked rd port).appendPart key format waiting).judgeHousekeeping) :=
      And.intro (hedge.trans (congrArg Host.Outcome.next harrives))
        (And.intro (housekept_judgeHousekeeping ((s.fed blanked rd port).appendPart key format waiting))
          (appendPart_spec key format waiting (u := s.fed blanked rd port) hlength))
    refine ⟨fun i hslot => ?_, fun hslot hwaits => ?_, fun e hslot hwaits => ?_⟩
    · exact ⟨_, _, happended rfl (partArrives_of_slot (s := { s with zt.eyes.fourth := true }) hroom hslot)⟩
    · have harrives := partArrives_of_no_slot (s := { s with zt.eyes.fourth := true }) hroom hslot
      rw [blankWaiting_of_none (s := { s with zt.eyes.fourth := true }) hwaits] at harrives
      exact ⟨_, _, happended rfl harrives⟩
    · have harrives := partArrives_of_no_slot (s := { s with zt.eyes.fourth := true }) hroom hslot
      rw [blankWaiting_of_waiting (s := { s with zt.eyes.fourth := true }) hwaits] at harrives
      exact ⟨_, _, happended (List.length_map _) harrives⟩

/-! ### The cycles of the magazine (O51) -/

section
variable {s : State}

theorem cycleDone_of_magazine (edge : InputEdge) (hrole : s.role = some .case ∨ s.role = some .jacket) :
    exec (.cycleDone edge) s = .next (s.onEdge edge State.doneEdge fun t => { t with work.doneOn := false }) :=
  congrArg Host.Outcome.next (if_pos ((hasMagazine_iff s).mpr hrole))

theorem doneEdge_of_cycle {c : Cycle} (h : s.work.cycle = some c) :
    s.doneEdge = State.cycleEnds c { s with work.doneOn := true } := by
  unfold State.doneEdge
  rw [h]

theorem doneEdge_of_none (h : s.work.cycle = none) :
    s.doneEdge = { s with work.doneOn := true, port := s.port.append .lateDone 0 .none } := by
  unfold State.doneEdge
  rw [h]
  rfl

theorem cycleLimit_of_cycle {c : Cycle} (f : Cycle → State → State) (hrun : s.mem.station = .running)
    (h : s.work.cycle = some c) : s.cycleLimit c.kind f = f c s := by
  unfold State.cycleLimit
  rw [h]
  exact if_pos ⟨hrun, rfl⟩

theorem withReasons_station (r : Reasons) (u : State) : (withReasons r u).mem.station = u.mem.station := by
  unfold withReasons
  split <;> rfl

theorem withReasons_onAtWork (r : Reasons) (f : ZoneRecord → ZoneRecord) (u : State) :
    withReasons r (u.onAtWork f) = (withReasons r u).onAtWork f := by
  unfold withReasons
  by_cases h : r = u.mem.ownStop
  · rw [if_pos h, if_pos (show r = (u.onAtWork f).mem.ownStop from h)]
  · rw [if_neg h, if_neg (show r ≠ (u.onAtWork f).mem.ownStop from h)]
    rfl

theorem withReasons_own (r : Reasons) (u : State) : (withReasons r u).own = u.own := by
  unfold withReasons
  split <;> rfl

theorem withReasons_markAtWork (r : Reasons) (k : MarkKind) (u : State) :
    withReasons r (u.markAtWork k) = (withReasons r u).markAtWork k := by
  unfold State.markAtWork
  rw [withReasons_onAtWork, withReasons_own]

/-- The station once CYCLE_FAULT has joined the own stop reasons and the timeout is journalled (R118, R119). -/
def State.timedOut (k : JournalKind) (tag : W16) (arrival : Byte) (u : State) : State :=
  (withReasons { u.mem.ownStop with cycleFault := true } u).log k tag (.value arrival.toNat)

theorem addCycleFault_of_room (ha : s.isActive) (hq : s.bus.txq.length < Config.txqCap) :
    s.addCycleFault = withReasons { s.mem.ownStop with cycleFault := true } s :=
  setOwnStop_withReasons (Bool.eq_false_iff.mpr fun h =>
    absurd (congrArg Reasons.cycleFault ((isEmpty_iff _).mp h)) Bool.noConfusion) ha hq

/-- After CYCLE_FAULT has joined the own stop reasons the step goes on. -/
theorem addCycleFault_andThen (f : State → State) (ha : s.isActive) (hq : s.bus.txq.length < Config.txqCap) :
    s.addCycleFault.andThen f = f (withReasons { s.mem.ownStop with cycleFault := true } s) := by
  rw [addCycleFault_of_room ha hq]
  refine andThen_of_active f ?_
  unfold State.isActive
  rw [withReasons_station]
  exact ha

section
variable (ha : s.isActive) (hq : s.bus.txq.length < Config.txqCap) {c : Cycle}
include ha hq

theorem marryTimesOut_of_owned (hc : c.owned = true) : s.marryTimesOut c =
    (State.markAtWork .cycleFault (State.timedOut .cycleTimeout s.workTag c.arrival
      { s with work.cycle := none })).partsDone := by
  unfold State.marryTimesOut
  rw [hc, if_pos rfl]
  dsimp only
  refine (addCycleFault_andThen (s := State.markAtWork .cycleFault { s with work.cycle := none }) _ ha hq).trans ?_
  exact congrArg (fun u : State => (u.log .cycleTimeout s.workTag (.value c.arrival.toNat)).partsDone)
    (withReasons_markAtWork _ .cycleFault { s with work.cycle := none })

theorem marryTimesOut_of_unowned (hc : c.owned = false) : s.marryTimesOut c =
    (State.timedOut .cycleTimeout 0 c.arrival { s with work.cycle := none }).afterWait := by
  unfold State.marryTimesOut
  rw [hc, if_neg (by decide)]
  exact addCycleFault_andThen (s := { s with work.cycle := none }) _ ha hq

theorem skipTimesOut_eq : s.skipTimesOut c =
    if c.owned then State.noPart { State.timedOut .skipTimeout 0 c.arrival { s with work.cycle := none } with
      parts.doubt := true }
    else State.afterWait { State.timedOut .skipTimeout 0 c.arrival { s with work.cycle := none } with
      parts.doubt := true } :=
  addCycleFault_andThen (s := { s with work.cycle := none }) _ ha hq

end

section
variable {z : ZoneRecord} (hz : s.atWork? = some z)
include hz

theorem afterMatchSkip_of_reject (hv : z.book.verdict = .reject) : s.afterMatchSkip = s.partsDone := by
  unfold State.afterMatchSkip
  rw [hz]
  exact if_pos hv

section
variable (hv : z.book.verdict = .good)
include hv

theorem afterMatchSkip_of_doubt (hd : s.parts.doubt = true) : s.afterMatchSkip = s.noPart := by
  unfold State.afterMatchSkip
  rw [hz]
  dsimp only
  rw [if_neg (by rw [hv]; decide), if_pos hd]

theorem afterMatchSkip_of_last (hd : s.parts.doubt = false) (hi : s.work.matchIndex = some 1) :
    s.afterMatchSkip = s.startMarry := by
  unfold State.afterMatchSkip
  rw [hz]
  dsimp only
  rw [if_neg (by rw [hv]; decide), if_neg (by rw [hd]; decide), hi]

theorem afterMatchSkip_of_further (hd : s.parts.doubt = false) {k : Nat} (hi : s.work.matchIndex = some (k + 2)) :
    s.afterMatchSkip = State.startSkip true { s with work.matchIndex := some (k + 1) } := by
  unfold State.afterMatchSkip
  rw [hz]
  dsimp only
  rw [if_neg (by rw [hv]; decide), if_neg (by rw [hd]; decide), hi]

end

end

end

/-- The station once the cycle-done input has ended the cycle in progress. -/
def State.cycleOver (s : State) : State := { s with work.cycle := none, work.doneOn := true }

/-- Settles O51: by the kind of the cycle and whether it is made for a record. -/
theorem cyclesEndOrTimeOut : Obligations.CyclesEndOrTimeOut := by
  intro s hrun hrole
  have hedge := cycleDone_of_magazine .named hrole
  rw [onEdge_named _ _ hrun] at hedge
  have hdone {c : Cycle} (hc : s.work.cycle = some c) : exec (.cycleDone .named) s =
      .next (State.cycleEnds c { s with work.doneOn := true }) := by
    rw [hedge, doneEdge_of_cycle hc]
  have hskipped {arrival : Byte} {left : Nat} (hc : s.work.cycle = some ⟨.skip, true, arrival, left⟩) :
      exec (.cycleDone .named) s = .next s.cycleOver.afterMatchSkip := hdone hc
  have hmarry {c : Cycle} (hc : s.work.cycle = some c) (hk : c.kind = .marry) :
      exec .cycleTimeout s = .next (s.marryTimesOut c) :=
    congrArg Host.Outcome.next (hk ▸ cycleLimit_of_cycle State.marryTimesOut hrun hc)
  have hskip {c : Cycle} (hc : s.work.cycle = some c) (hk : c.kind = .skip) :
      exec .skipTimeout s = .next (s.skipTimesOut c) :=
    congrArg Host.Outcome.next (hk ▸ cycleLimit_of_cycle State.skipTimesOut hrun hc)
  refine ⟨?_, fun hnone => ?_,
    fun arrival left hc => ⟨⟨_, hdone hc, partsEnd_partsDone _⟩, fun hq => ⟨_, hmarry hc rfl, ?_⟩⟩,
    fun z arrival left hc hz => ⟨fun hv => ?_, fun hv hdoubt => ?_,
      fun e rest hv hdoubt hm => ⟨fun hindex => ?_, fun k hindex => ?_⟩, fun hq => ⟨_, hskip hc rfl, ?_⟩⟩,
    fun kind arrival left hc => ⟨?_, fun hq => ⟨fun hk => ?_, fun hk => ?_⟩⟩⟩
  · rw [cycleDone_of_magazine .opposite hrole, onEdge_opposite _ _ hrun]
  · rw [hedge, doneEdge_of_none hnone]
  · rw [marryTimesOut_of_owned (.inr hrun) hq rfl]
    have hown : (State.timedOut .cycleTimeout s.workTag arrival { s with work.cycle := none }).own = s.own :=
      withReasons_own _ { s with work.cycle := none }
    rw [← hown]
    exact partsEnd_markAtWork .cycleFault _
  · rw [hskipped hc, afterMatchSkip_of_reject (s := s.cycleOver) hz hv]
    exact ⟨_, rfl, partsEnd_partsDone _⟩
  · rw [hskipped hc, afterMatchSkip_of_doubt (s := s.cycleOver) hz hv hdoubt]
    exact ⟨_, rfl, noPartGiven_noPart _⟩
  · rw [hskipped hc, afterMatchSkip_of_last (s := s.cycleOver) hz hv hdoubt hindex]
    exact ⟨_, rfl, marryBegins_startMarry (u := s.cycleOver) hm⟩
  · rw [hskipped hc, afterMatchSkip_of_further (s := s.cycleOver) hz hv hdoubt hindex]
    exact ⟨_, rfl, skipBegins_startSkip (u := { s.cycleOver with work.matchIndex := some (k + 1) }) hm true⟩
  · rw [skipTimesOut_eq (.inr hrun) hq]
    exact noPartGiven_noPart _
  · cases kind
    · exact ⟨_, hdone hc, waitEnds_afterWait _⟩
    · exact ⟨_, hdone hc, waitEnds_afterWait _⟩
  · subst hk
    rw [hmarry hc rfl, marryTimesOut_of_unowned (.inr hrun) hq rfl]
    exact ⟨_, rfl, waitEnds_afterWait _⟩
  · subst hk
    rw [hskip hc rfl, skipTimesOut_eq (.inr hrun) hq]
    exact ⟨_, rfl, waitEnds_afterWait _⟩

end Sys2Proof.Machine

namespace Sys2Proof.Machine

/-! ### Records that leave the line (O41, O48, O49) -/

section
variable {s u : State}

/-- Room judged once `sent` has been queued behind what `s` had waiting. -/
theorem judgeRoom_after (sent : List TxEntry) (hu : s.besideLists u) (ha : s.isActive)
    (hq : (s.bus.txq ++ sent).length < Config.txqCap) :
    let t := State.judgeRoom { u with bus.txq := u.bus.txq ++ sent }
    roomFollows sent s t ∧ t = { u with
      bus := t.bus, zt := { u.zt with roomOpen := t.zt.roomOpen, announced := t.zt.announced } } := by
  obtain ⟨hbus, hmem, -⟩ := id hu
  have heq := judgeRoom_of_room (s := { u with bus.txq := u.bus.txq ++ sent })
    (by unfold State.isActive; rw [hmem]; exact ha) (by rw [hbus]; exact hq)
  intro t
  have ht : t = _ := heq
  refine ⟨roomFollows_of_eq hu (by rw [ht]; rfl) (by rw [ht]; rfl), by rw [ht]⟩

/-- What follows a notice queued: the room. -/
theorem queued_spec (n : Notice) (hu : s.besideLists u) (ha : s.isActive) (hq : s.bus.txq.length ≤ 14) :
    let t := (u.queue n).andThen State.judgeRoom
    roomFollows [⟨n, 0⟩] s t ∧ t.zt.zone = u.zt.zone ∧ t.zt.incoming = u.zt.incoming ∧ t.zt.eyes = u.zt.eyes ∧
      t.work = u.work ∧ t.rd = u.rd ∧ t.mem = s.mem ∧ t.params = s.params ∧ t.heat = s.heat ∧ t.parts = s.parts ∧
      t.port = u.port := by
  obtain ⟨hbus, hmem, hparams, hheat, hparts, -⟩ := id hu
  have ha' : u.isActive := by
    unfold State.isActive
    rw [hmem]
    exact ha
  have hsent : (s.bus.txq ++ [(⟨n, 0⟩ : TxEntry)]).length < Config.txqCap := by
    rw [List.length_append]
    exact Nat.lt_of_le_of_lt (Nat.add_le_add_right hq 1) (by decide)
  have ht : (u.queue n).andThen State.judgeRoom = State.judgeRoom { u with bus.txq := u.bus.txq ++ [⟨n, 0⟩] } := by
    rw [queue_of_room n u ha' (by rw [hbus]; exact Nat.lt_of_le_of_lt hq (by decide))]
    exact andThen_of_active _ ha'
  obtain ⟨hfollows, hframe⟩ := judgeRoom_after [⟨n, 0⟩] hu ha hsent
  rw [ht]
  refine ⟨hfollows, ?_, ?_, ?_, ?_, ?_, ?_, ?_, ?_, ?_, ?_⟩
  all_goals rw [hframe]
  all_goals assumption

theorem append_counts (k : JournalKind) (tag : W16) (d : Detail) (p : PortUnit) :
    (p.append k tag d).diverted = p.diverted ∧ (p.append k tag d).retired = p.retired := by
  unfold PortUnit.append
  dsimp only
  split <;> exact ⟨rfl, rfl⟩

/-- What follows a record dropped from its list: its VOID, the latch, its entry, and the room. -/
theorem dropped_spec (k : JournalKind) (d : Detail) (b : BookRecord) (hu : s.besideLists u) (hp : u.port = s.port)
    (ha : s.isActive) (hq : s.bus.txq.length ≤ 14) :
    let t := (u.drop k d b).andThen State.judgeRoom
    departed b s t ∧ t.zt.zone = u.zt.zone ∧ t.zt.incoming = u.zt.incoming ∧ t.work = u.work ∧ t.rd = u.rd ∧
      t.zt.eyes = u.zt.eyes ∧ t.port.latches[(2 : Fin 17)] = true ∧
      t.port.journal.getLast? = some ⟨k, b.tag, d, s.port.stamp⟩ := by
  have hvoids := voidNotices_length b
  have hfree : (s.bus.txq ++ voidNotices b).length < Config.txqCap := by
    show _ < 16
    rw [List.length_append]
    omega
  obtain ⟨hbus, hmem, hparams, hheat, hparts, hzt⟩ := id hu
  have ha' : u.isActive := by
    unfold State.isActive
    rw [hmem]
    exact ha
  have hdrop := drop_of_room k d b ha' (by rw [hbus]; exact Nat.lt_of_le_of_lt hq (by decide))
  have hbeside : s.besideLists { u with port := u.droppedPort k d b } := hu
  obtain ⟨hfollows, hframe⟩ := judgeRoom_after (voidNotices b) hbeside ha hfree
  have ht : (u.drop k d b).andThen State.judgeRoom =
      State.judgeRoom { u with bus.txq := u.bus.txq ++ voidNotices b, port := u.droppedPort k d b } := by
    rw [hdrop]
    exact andThen_of_active _ ha'
  intro t
  have htag : u.zt.tagCounter = s.zt.tagCounter := by rw [hzt]
  obtain ⟨hlatch, hjournal⟩ := droppedPort_spec k d b u
  rw [hp] at hjournal
  rw [show t = _ from ht]
  refine ⟨⟨hfollows, ?_, ?_, ?_, ?_, ?_⟩, ?_, ?_, ?_, ?_, ?_, ?_, ?_⟩
  all_goals rw [hframe]
  all_goals assumption

end

/-- Settles O41: each distance in turn. -/
theorem distancesRunByEncoderCounts : Obligations.DistancesRunByEncoderCounts := by
  intro s
  refine ⟨fun h => congrArg Host.Outcome.next (if_neg h), fun h => ?_, fun h hadopt => ?_, fun r rest h hr hq => ?_⟩
  · refine (congrArg Host.Outcome.next (if_pos h)).trans ?_
    unfold State.count
    simp only [List.any_eq_true]
  · have hany : s.zt.zone.any ZoneRecord.adoptable = true := by
      obtain ⟨z, hz, hz'⟩ := hadopt
      exact List.any_eq_true.mpr ⟨z, hz, Option.isSome_iff_ne_none.mpr hz'⟩
    exact congrArg Host.Outcome.next (if_pos ⟨h, hany⟩)
  · have hexec : exec .transitDistanceExpiry s = .next (State.depart .missing .none r.book
        { s with zt.incoming := rest, port := s.port.setLatch .recordMissing }) := by
      refine (congrArg Host.Outcome.next (if_pos h)).trans ?_
      unfold State.goMissing
      rw [hr]
      rfl
    obtain ⟨hdeparted, hzone, hincoming, hwork, hrd, hport, -⟩ := depart_spec .missing .none r.book (s := s)
      (u := { s with zt.incoming := rest, port := s.port.setLatch .recordMissing })
      ⟨rfl, rfl, rfl, rfl, rfl, rfl⟩ (.inr h) hq
    refine ⟨_, hexec, hincoming, hzone, hdeparted, hwork, hrd, ?_, ?_⟩
    · rw [hport]
      exact append_latch_of_set _ _ _ (by simp [PortUnit.setLatch, Latch.index])
    · rw [hport]
      exact append_journal_getLast? _ _ _ _

/-! ### The exit eye (O48) -/

section
variable {s : State}

theorem exitEdge_of_running (edge : InputEdge) (h : s.mem.station = .running) : exec (.exitTrailingEdge edge) s = .next
    (match edge with | .named => s.exitTrailing | .opposite => { s with zt.eyes.exit := true }) :=
  congrArg Host.Outcome.next (if_pos h)

theorem exitTrailing_of_not_worked (h : ∀ z, s.zt.zone.head? = some z → z.phase ≠ .worked) : s.exitTrailing = { s with
    zt.eyes.exit := false, port := s.port.append .eyeOrder 0 (.value 3) } := by
  unfold State.exitTrailing
  cases hzone : s.zt.zone with
  | nil => rfl
  | cons z rest => exact if_pos (h z (by rw [hzone]; rfl))

/-- The station once its worked head has left the zone list. -/
def State.headOut (rest : List ZoneRecord) (s : State) : State := { s with zt.eyes.exit := false, zt.zone := rest }

theorem exitTrailing_of_worked {z : ZoneRecord} {rest : List ZoneRecord} (hzone : s.zt.zone = z :: rest)
    (hz : z.phase = .worked) : s.exitTrailing =
      if s.params.straps.isEnd then State.depart .retired .none z.book
        { s.headOut rest with port.retired := s.port.retired + 1 }
      else (match s.peer with
        | some p => (s.headOut rest).queue (.handover p z.book z.step)
        | none => (s.headOut rest).drop .noPeer .none z.book).andThen State.judgeRoom := by
  unfold State.exitTrailing
  rw [hzone]
  exact if_neg (not_not.mpr hz)

end

/-- Settles O48: by the head and, where it is not the END station, the downstream peer. -/
theorem exitEdgeTakesTheWorkedHead : Obligations.ExitEdgeTakesTheWorkedHead := by
  intro s h
  refine ⟨exitEdge_of_running .opposite h, fun hhead => ?_, fun z rest hzone hz hq => ?_⟩
  · rw [exitEdge_of_running .named h, exitTrailing_of_not_worked hhead]
  · rw [exitEdge_of_running .named h]
    dsimp only
    rw [exitTrailing_of_worked hzone hz]
    have hbeside : s.besideLists (s.headOut rest) := ⟨rfl, rfl, rfl, rfl, rfl, rfl⟩
    cases hend : s.params.straps.isEnd with
    | true =>
      obtain ⟨hdeparted, hzone', hincoming, hwork, hrd, hport, heyes, -⟩ := depart_spec .retired .none z.book (s := s)
        (u := { s.headOut rest with port.retired := s.port.retired + 1 }) hbeside (.inr h) hq
      obtain ⟨-, hmem, hparams, hheat, hparts, -⟩ := id hdeparted
      refine ⟨_, congrArg _ (if_pos rfl), hzone', hincoming, heyes, hwork, hrd, hmem, hparams, hheat, hparts,
        fun _ => ⟨hdeparted, ?_, ?_⟩, nofun⟩
      · rw [hport]
        exact (append_counts _ _ _ _).2
      · rw [hport]
        exact append_journal_getLast? _ _ _ _
    | false =>
      rw [if_neg (by decide)]
      cases hpeer : s.peer with
      | some p =>
        obtain ⟨hfollows, hzone', hincoming, heyes, hwork, hrd, hmem, hparams, hheat, hparts, hport⟩ :=
          queued_spec (.handover p z.book z.step) hbeside (.inr h) hq
        obtain ⟨habove, hknown, -⟩ := (peer_eq_some_iff s p).mp hpeer
        refine ⟨_, rfl, hzone', hincoming, heyes, hwork, hrd, hmem, hparams, hheat, hparts, nofun,
          fun _ => ⟨fun q hq hq' hbefore => ?_, fun hnone => absurd (hnone p habove) hknown⟩⟩
        have hpeer' := (peer_eq_some_iff s q).mpr ⟨hq, hq', hbefore⟩
        rw [hpeer] at hpeer'
        cases hpeer'
        exact ⟨hfollows, hport⟩
      | none =>
        obtain ⟨hdeparted, hzone', hincoming, hwork, hrd, heyes, hlatch, hjournal⟩ :=
          dropped_spec .noPeer .none z.book hbeside rfl (.inr h) hq
        obtain ⟨-, hmem, hparams, hheat, hparts, -⟩ := id hdeparted
        refine ⟨_, rfl, hzone', hincoming, heyes, hwork, hrd, hmem, hparams, hheat, hparts, nofun,
          fun _ => ⟨fun p hp hknown hfirst => ?_, fun _ => ⟨hdeparted, hlatch, hjournal⟩⟩⟩
        have hpeer' := (peer_eq_some_iff s p).mpr ⟨hp, hknown, hfirst⟩
        rw [hpeer] at hpeer'
        cases hpeer'

/-! ### The reject path (O49) -/

section
variable {s : State}

theorem confirmEdge_of_gate (edge : InputEdge) (hrole : s.role = some .gate) : exec (.confirmEyeLeadingEdge edge) s =
    .next (s.onEdge edge (fun t => State.confirmEdge { t with zt.eyes.fourth := true }) State.fourthClear) :=
  congrArg Host.Outcome.next (if_pos hrole)

theorem confirmEdge_of_idle (h : s.work.divert = none) :
    s.confirmEdge = s.log .strayDivert ((s.zt.zone.head?.map fun z => z.book.tag).getD 0) .none := by
  unfold State.confirmEdge
  rw [h]

/-- Two changes of the record at work are one. -/
theorem onAtWork_onAtWork {f g : ZoneRecord → ZoneRecord} (hf : ∀ z, (f z).phase = z.phase) (u : State) :
    (u.onAtWork f).onAtWork g = u.onAtWork fun z => g (f z) := by
  unfold State.onAtWork
  dsimp only
  rw [mapFirst_mapFirst (p := fun z : ZoneRecord => z.phase == .atWork) fun z hz => by rw [hf z]; exact hz]

/-- The station once its diverted record is off the line, before its departure is told. -/
def State.divertedOut (s : State) : State := { s with
  zt.eyes.fourth := true, zt.zone := s.zt.zone.eraseP fun z => z.phase == .atWork
  work.divert := none, port.diverted := s.port.diverted + 1 }

theorem confirmEdge_of_divert {z : ZoneRecord} (h : s.work.divert ≠ none) (hz : s.atWork? = some z) :
    State.confirmEdge { s with zt.eyes.fourth := true } = State.depart .diverted .none z.book s.divertedOut := by
  have hz' : State.atWork? { s with zt.eyes.fourth := true } = some z := hz
  obtain ⟨n, hn⟩ := Option.ne_none_iff_exists'.mp h
  unfold State.confirmEdge
  rw [hz']
  dsimp only
  rw [hn]
  rfl

/-- The zone list once the record at work has failed its divert (R174). -/
def State.divertFailedZone (s : State) : List ZoneRecord := mapFirst (fun y => y.phase == .atWork)
  (fun y => { y with book := y.book.addMark .divertFail s.own, divertFailed := true, phase := .worked }) s.zt.zone

theorem failDivert_of_room (h : s.mem.station = .running) (hq : s.bus.txq.length < Config.txqCap) : s.failDivert =
    ((withReasons { s.mem.ownStop with divertFail := true }
      { s with zt.zone := s.divertFailedZone, work.divert := none }).latch .divertFail).log .divertFail s.workTag .none := by
  have hzone : ((s.markAtWork .divertFail).onAtWork fun z => { z with divertFailed := true }).markWorked =
      { s with zt.zone := s.divertFailedZone } := by
    unfold State.markWorked State.markAtWork
    rw [onAtWork_onAtWork, onAtWork_onAtWork]
    · rfl
    · exact fun _ => rfl
    · exact fun _ => rfl
  have hset := setOwnStop_withReasons (r := { s.mem.ownStop with divertFail := true })
    (s := { s with zt.zone := s.divertFailedZone, work.divert := none })
    (Bool.eq_false_iff.mpr fun h => absurd (congrArg Reasons.divertFail ((isEmpty_iff _).mp h)) Bool.noConfusion)
    (.inr h) hq
  have hrun : State.isActive (withReasons { s.mem.ownStop with divertFail := true }
      { s with zt.zone := s.divertFailedZone, work.divert := none }) := by
    unfold State.isActive
    rw [withReasons_station]
    exact .inr h
  rw [← andThen_of_active (fun t => (t.latch .divertFail).log .divertFail s.workTag .none) hrun, ← hset]
  unfold State.failDivert
  dsimp only
  rw [hzone]
  rfl

theorem withReasons_mem (r : Reasons) (u : State) : (withReasons r u).mem = { u.mem with ownStop := r } := by
  unfold withReasons
  split
  · subst r
    rfl
  · rfl

theorem withReasons_bus (r : Reasons) (u : State) : (withReasons r u).bus =
    if r = u.mem.ownStop then u.bus else { u.bus with txq := u.bus.txq ++ [⟨.stop r, 0⟩] } := by
  unfold withReasons
  split <;> rfl

theorem withReasons_port (r : Reasons) (u : State) :
    (withReasons r u).port.stamp = u.port.stamp ∧ (withReasons r u).port.diverted = u.port.diverted := by
  unfold withReasons
  split
  · exact ⟨rfl, rfl⟩
  · exact ⟨append_stamp _ _ _ _, (append_counts _ _ _ _).1⟩

theorem withReasons_units (r : Reasons) (u : State) : (withReasons r u).zt = u.zt ∧ (withReasons r u).work = u.work ∧
    (withReasons r u).heat = u.heat ∧ (withReasons r u).parts = u.parts := by
  unfold withReasons
  split <;> exact ⟨rfl, rfl, rfl, rfl⟩

theorem divertFail_same_iff (r : Reasons) : { r with divertFail := true } = r ↔ r.divertFail = true := by
  refine ⟨fun h => h ▸ rfl, fun h => ?_⟩
  cases r
  cases h
  rfl

end

/-- Settles O49: a stray edge, a divert confirmed, and a divert that fails. -/
theorem divertsAreConfirmedOrFail : Obligations.DivertsAreConfirmedOrFail := by
  intro s h hrole
  refine ⟨?_, fun hidle => ?_, fun z hdivert hz hq => ⟨?_, ?_⟩⟩
  · rw [confirmEdge_of_gate .opposite hrole, onEdge_opposite _ _ h]
    rfl
  · rw [confirmEdge_of_gate .named hrole, onEdge_named _ _ h, confirmEdge_of_idle (s := { s with zt.eyes.fourth := true }) hidle]
    show Host.Outcome.next (State.log .strayDivert ((s.zt.zone.head?.map fun z => z.book.tag).getD 0) .none
      { s with zt.eyes.fourth := true }) = _
    cases s.zt.zone <;> rfl
  · rw [confirmEdge_of_gate .named hrole, onEdge_named _ _ h, confirmEdge_of_divert hdivert hz]
    obtain ⟨hdeparted, hzone, hincoming, hwork, -, hport, -⟩ := depart_spec .diverted .none z.book (s := s)
      (u := s.divertedOut) ⟨rfl, rfl, rfl, rfl, rfl, rfl⟩ (.inr h) hq
    refine ⟨_, rfl, hzone, hincoming, hdeparted, hwork, ?_, ?_⟩
    · rw [hport]
      exact (append_counts _ _ _ _).1
    · rw [hport]
      exact append_journal_getLast? _ _ _ _
  · have hexec : exec .confirmDistanceExpiry s = .next s.failDivert :=
      congrArg Host.Outcome.next (if_pos ⟨h, Option.isSome_iff_ne_none.mpr hdivert⟩)
    rw [hexec, failDivert_of_room h (Nat.lt_of_le_of_lt hq (by decide)), workTag_of_atWork hz]
    have hmem := withReasons_mem { s.mem.ownStop with divertFail := true }
      { s with zt.zone := s.divertFailedZone, work.divert := none }
    have hbus := withReasons_bus { s.mem.ownStop with divertFail := true }
      { s with zt.zone := s.divertFailedZone, work.divert := none }
    obtain ⟨hstamp, hdiverted⟩ := withReasons_port { s.mem.ownStop with divertFail := true }
      { s with zt.zone := s.divertFailedZone, work.divert := none }
    obtain ⟨hzt, hwork, hheat, hparts⟩ := withReasons_units { s.mem.ownStop with divertFail := true }
      { s with zt.zone := s.divertFailedZone, work.divert := none }
    refine ⟨_, rfl, hzt, hwork, hmem, ?_, ?_, ?_, ?_, hheat, hparts⟩
    · refine hbus.trans (if_congr (divertFail_same_iff s.mem.ownStop) rfl rfl)
    · exact append_latch_of_set _ _ _ (by simp [State.latch, PortUnit.setLatch, Latch.index])
    · exact (append_journal_getLast? _ _ _ _).trans (by rw [← hstamp]; rfl)
    · exact (append_counts _ _ _ _).1.trans hdiverted

end Sys2Proof.Machine

namespace Sys2Proof.Machine

/-! ### The reader line and the read windows (O40) -/

/-- The eight bytes of an ID frame. -/
def frameBytes (key : Key) (copy : W16) (f check : Byte) : List Byte :=
  [0xA5] ++ bytes3 key ++ bytes2 copy ++ [f] ++ [check]

/-- The check byte of an ID frame. -/
def frameCheck (key : Key) (copy : W16) (f : Byte) : Byte := (bytes3 key ++ bytes2 copy ++ [f]).foldl (· ^^^ ·) 0

theorem frameId_frameBytes (key : Key) (copy : W16) (f check : Byte) : frameId (frameBytes key copy f check) =
    if check = frameCheck key copy f ∧ key ≠ 0 ∧ copy ≠ 0 then some ⟨key, copy, f⟩ else none := by
  have hkey := word3_bytes3 key
  have hcopy := word2_bytes2 copy
  have hcheck : frameCheck key copy f = key.extractLsb' 16 8 ^^^ key.extractLsb' 8 8 ^^^ key.extractLsb' 0 8 ^^^
      copy.extractLsb' 8 8 ^^^ copy.extractLsb' 0 8 ^^^ f :=
    congrArg (fun x : Byte => x ^^^ key.extractLsb' 8 8 ^^^ key.extractLsb' 0 8 ^^^
      copy.extractLsb' 8 8 ^^^ copy.extractLsb' 0 8 ^^^ f) BitVec.zero_xor
  have hunfold : frameId (frameBytes key copy f check) = if check = key.extractLsb' 16 8 ^^^ key.extractLsb' 8 8 ^^^
      key.extractLsb' 0 8 ^^^ copy.extractLsb' 8 8 ^^^ copy.extractLsb' 0 8 ^^^ f ∧
      word3 (key.extractLsb' 16 8) (key.extractLsb' 8 8) (key.extractLsb' 0 8) ≠ 0 ∧
      word2 (copy.extractLsb' 8 8) (copy.extractLsb' 0 8) ≠ 0 then
      some ⟨word3 (key.extractLsb' 16 8) (key.extractLsb' 8 8) (key.extractLsb' 0 8),
        word2 (copy.extractLsb' 8 8) (copy.extractLsb' 0 8), f⟩ else none := rfl
  rw [hunfold, hkey, hcopy, hcheck]

section
variable {s : State}

/-- A byte that goes on with a frame in assembly. -/
theorem readByte_of_begun (hon : s.readerOn = true) {begun : List Byte} (hne : begun ≠ []) (b : Byte) :
    State.readByte { s with rd.assembly := begun } ⟨b, true⟩ =
      if begun.length < 7 then { s with rd.assembly := begun ++ [b] }
      else (frameId (begun ++ [b])).elim (State.readError { s with rd.assembly := begun })
        (fun i => State.deliverId i { s with rd.assembly := [] }) := by
  have hon' : State.readerOn { s with rd.assembly := begun } = true := hon
  obtain ⟨x, xs, rfl⟩ := List.exists_cons_of_ne_nil hne
  unfold State.readByte
  rw [if_pos hon']
  dsimp only
  rw [if_neg (by decide)]
  split_ifs
  · rfl
  · cases frameId (x :: xs ++ [b]) <;> rfl

theorem readBytes_of_begun (hon : s.readerOn = true) {begun : List Byte} (hne : begun ≠ []) (l : List Byte)
    (hl : begun.length + l.length ≤ 7) :
    (l.map (fun b => (⟨b, true⟩ : ReaderByte))).foldl State.readByte { s with rd.assembly := begun } =
      { s with rd.assembly := begun ++ l } := by
  induction l generalizing begun with
  | nil => rw [List.append_nil]; rfl
  | cons b rest ih =>
    rw [List.length_cons] at hl
    rw [List.map_cons, List.foldl_cons, readByte_of_begun hon hne, if_pos (by omega),
      ih (List.append_ne_nil_of_left_ne_nil hne _) (by rw [List.length_append, List.length_singleton]; omega),
      List.append_assoc, List.singleton_append]

theorem clearAssembly_of_empty (h : s.rd.assembly = []) : { s with rd.assembly := [] } = s := by
  rw [← h]

/-- A whole frame read: its ID delivered, or READ_ERROR. -/
theorem idFrame_of_reads (hon : s.readerOn = true) (hempty : s.rd.assembly = []) (key : Key) (copy : W16) (f check : Byte) :
    exec (.idFrame ((frameBytes key copy f check).map (⟨·, true⟩))) s = .next
      ((frameId (frameBytes key copy f check)).elim { s with port := s.port.append .readError 0 .none }
        (fun i => s.deliverId i)) := by
  have hstart : s.readByte ⟨0xA5, true⟩ = { s with rd.assembly := [0xA5] } := by
    unfold State.readByte
    rw [if_pos hon, hempty]
    rfl
  have hbytes : frameBytes key copy f check = [0xA5] ++ (bytes3 key ++ bytes2 copy ++ [f]) ++ [check] := rfl
  refine congrArg Host.Outcome.next ?_
  rw [hbytes, List.map_append, List.map_append, List.foldl_append, List.foldl_append]
  simp only [List.map_cons, List.map_nil, List.foldl_cons, List.foldl_nil]
  rw [hstart, readBytes_of_begun hon (by decide) _ (by rfl), readByte_of_begun hon (by simp), if_neg (by simp [bytes3, bytes2]),
    clearAssembly_of_empty hempty]
  cases frameId ([0xA5] ++ (bytes3 key ++ bytes2 copy ++ [f]) ++ [check]) with
  | none =>
    have hclear := clearAssembly_of_empty hempty
    show State.log .readError 0 .none { s with rd.assembly := [] } = _
    rw [hclear]
    rfl
  | some i => rfl

/-- The ID taken by the record at work (R15). -/
theorem takeId_eq (i : PartId) (s : State) : s.takeId i = s.onAtWork fun y =>
    { y with
      book :=
        if formatNamed s i.format = none then
          BookRecord.addMark .badFormat s.own { y.book with
            key := some i.key, copy := some i.copy, format := formatNamed s i.format }
        else { y.book with key := some i.key, copy := some i.copy, format := formatNamed s i.format }
      phase := .worked } := by
  unfold State.takeId
  rw [validFormat_eq]
  dsimp only
  cases formatNamed s i.format with
  | none =>
    rw [Option.isNone_none, if_pos rfl]
    unfold State.markWorked State.markAtWork
    rw [onAtWork_onAtWork, onAtWork_onAtWork]
    · rfl
    · exact fun _ => rfl
    · exact fun _ => rfl
  | some f =>
    rw [Option.isNone_some, if_neg (by decide)]
    unfold State.markWorked
    rw [onAtWork_onAtWork]
    · rfl
    · exact fun _ => rfl

/-- A good ID that finds no read window goes into the slot (R12). -/
theorem deliverId_of_no_window (i : PartId) (h : s.rd.window = none) : s.deliverId i = { s with
    rd.slot := some i, port := (s.rd.slot.map fun old =>
      s.port.append .idOverrun 0 (.value old.key.toNat)).getD s.port } := by
  unfold State.deliverId
  rw [h, if_neg (by decide)]
  cases s.rd.slot <;> rfl

theorem deliverId_of_infeed (i : PartId) (h : s.rd.window ≠ none) (hr : s.role = some .infeed) :
    s.deliverId i = State.takeId i { s with rd.window := none } := by
  unfold State.deliverId
  rw [if_pos (Option.isSome_iff_ne_none.mpr h), if_pos hr]

theorem deliverId_of_magazine (i : PartId) (h : s.rd.window ≠ none) (hr : s.role ≠ some .infeed) :
    s.deliverId i = (s.fillWaiting i).afterWait := by
  unfold State.deliverId
  rw [if_pos (Option.isSome_iff_ne_none.mpr h), if_neg hr]

theorem gapTimeout_of_reads (hon : s.readerOn = true) (h : s.rd.assembly ≠ []) :
    exec .readerGapTimeout s = .next s.readError := congrArg Host.Outcome.next (if_pos ⟨hon, h⟩)

theorem windowExpiry_of_window (h : s.mem.station = .running) (hw : s.rd.window ≠ none) :
    exec .readWindowExpiry s = .next s.windowExpires :=
  congrArg Host.Outcome.next (if_pos ⟨h, Option.isSome_iff_ne_none.mpr hw⟩)

end

/-- A station whose reader is off takes no byte. -/
theorem readBytes_of_off {s : State} (h : ¬ s.readerOn = true) (l : List ReaderByte) : l.foldl State.readByte s = s := by
  induction l with
  | nil => rfl
  | cons r rest ih => rw [List.foldl_cons, show s.readByte r = s from if_neg h, ih]

/-- Settles O40: by the frame, the window and the role. -/
theorem idsAndReadWindows : Obligations.IdsAndReadWindows := by
  refine ⟨fun key copy f s => ⟨fun hreads hempty hkey hcopy => ?_, fun hreads hempty check hbad => ?_,
    fun hreads hne => ?_, fun hoff => ?_⟩, fun s hrun hw => ⟨fun hr => ?_, fun e hr he => ?_⟩⟩
  · have hgood : exec (.idFrame (idBytes key copy f)) s = .next (s.deliverId ⟨key, copy, f⟩) := by
      refine (idFrame_of_reads ((readerOn_iff s).mpr hreads) hempty key copy f (frameCheck key copy f)).trans ?_
      rw [frameId_frameBytes, if_pos ⟨rfl, hkey, hcopy⟩]
      rfl
    rw [hgood]
    refine ⟨fun hnone => ?_, fun hw hr => ?_, fun hw hr => ?_⟩
    · rw [deliverId_of_no_window _ hnone]
      cases s.rd.slot <;> rfl
    · rw [deliverId_of_infeed _ hw hr, takeId_eq]
      rfl
    · rw [deliverId_of_magazine _ hw hr]
      refine ⟨_, rfl, ?_⟩
      dsimp only
      rw [← validFormat_eq]
      exact waitEnds_afterWait _
  · refine (idFrame_of_reads ((readerOn_iff s).mpr hreads) hempty key copy f check).trans ?_
    rw [frameId_frameBytes, if_neg]
    · rfl
    · rintro ⟨hcheck, hkey, hcopy⟩
      exact hbad.elim hkey fun h => h.elim hcopy fun h => h hcheck
  · rw [gapTimeout_of_reads ((readerOn_iff s).mpr hreads) hne]
    rfl
  · have hoff' := mt (readerOn_iff s).mp hoff
    exact ⟨congrArg Host.Outcome.next (readBytes_of_off hoff' _), congrArg Host.Outcome.next (if_neg fun h => hoff' h.1)⟩
  · rw [windowExpiry_of_window hrun hw, State.windowExpires, if_pos hr]
    unfold State.markWorked State.markAtWork
    rw [onAtWork_onAtWork]
    · rfl
    · exact fun _ => rfl
  · have hnot : s.role ≠ some .infeed := by
      rcases hr with hr | hr <;> rw [hr] <;> decide
    rw [windowExpiry_of_window hrun hw, State.windowExpires, if_neg hnot]
    refine ⟨_, rfl, ?_⟩
    rw [blankWaiting_of_waiting (s := { s with rd.window := none }) he]
    exact waitEnds_afterWait _

end Sys2Proof.Machine

namespace Sys2Proof.Machine

/-! ### A book that leaves WAIT_SHARE, and the marks of length and open time (O43, O44) -/

section
variable {u : State}

theorem giveUp_of_returning (h : u.heat.claim = .returning) : u.giveUp = u := by
  unfold State.giveUp
  rw [h]

theorem giveUp_of_no_claim (h : u.heat.claim = .none) : u.giveUp = u := by
  unfold State.giveUp
  rw [h]

/-- The station once its book has left WAIT_SHARE with no claim to give back. -/
def State.bookDone (u : State) : State := { u with
  zt.zone := mapFirst (fun y => y.phase == .atWork) workDone u.zt.zone
  heat.pendingBook := false
  work := pressIdle u.work }

theorem leaveWait_of_no_notice (ha : u.isActive) (h : u.giveUpBook = { u with heat.pendingBook := false }) :
    u.leaveWait = u.bookDone.judgeKeepwarm := by
  unfold State.leaveWait
  rw [h]
  exact andThen_of_active _ ha

/-- A book leaves WAIT_SHARE by what its claim is. -/
theorem leavesWaitShare_leaveWait (ha : u.isActive) : leavesWaitShare u (.next u.leaveWait) := by
  refine ⟨fun hclaim hq => ?_, fun hclaim hq => ?_, fun hclaim => ?_, fun hclaim => ?_⟩
  · have hheat : u.bookLeft.heat.claim = .returning ∧ u.bookLeft = { u.bookDone with
        bus.txq := u.bus.txq ++ [⟨.withdraw, 0⟩]
        heat.claim := .returning, heat.use := .none, heat.claimWait := none } := by
      unfold State.bookLeft HeatShare.givenUp givenUpNotices
      rcases hclaim with hclaim | hclaim <;> simp only [hclaim, true_and] <;> rfl
    obtain ⟨hreturning, hleft⟩ := hheat
    rw [leaveWait_of_room ha hq, judgeKeepwarm_of_claim (by rw [hreturning]; decide), hleft]
    rfl
  · have hheat : u.bookLeft.heat.claim = .returning ∧ u.bookLeft = { u.bookDone with
        bus.txq := u.bus.txq ++ [⟨.release, 0⟩], heat.claim := .returning, heat.use := .none } := by
      unfold State.bookLeft HeatShare.givenUp givenUpNotices
      simp only [hclaim, true_and]
      rfl
    obtain ⟨hreturning, hleft⟩ := hheat
    rw [leaveWait_of_room ha hq, judgeKeepwarm_of_claim (by rw [hreturning]; decide), hleft]
    rfl
  · have hclaim' : u.bookDone.heat.claim ≠ .none := by
      rw [show u.bookDone.heat.claim = u.heat.claim from rfl, hclaim]
      decide
    rw [leaveWait_of_no_notice ha (giveUp_of_returning hclaim), judgeKeepwarm_of_claim hclaim']
    rfl
  · rw [leaveWait_of_no_notice ha (giveUp_of_no_claim hclaim)]
    exact ⟨_, rfl, warmthAsked_judgeKeepwarm u.bookDone⟩

theorem afterMark_of_waits (hr : u.role = some .press) (hp : u.work.press = .waitShare) : u.afterMark = u.leaveWait :=
  if_pos ⟨hr, hp⟩

theorem afterMark_of_goes (h : ¬ (u.role = some .press ∧ u.work.press = .waitShare)) : u.afterMark = u := if_neg h

end

section
variable {s : State}

/-- Open time run out on a zone record. -/
theorem zoneTimeOut_of_zone {i : Nat} {z : ZoneRecord} (ha : s.isActive) (hz : s.zt.zone[i]? = some z)
    (ht : z.book.openTime ≠ none) : exec (.openTimeExpiry (.zone i)) s = .next (s.zoneTimeOut i z) := by
  show execOpenTimeExpiry (.zone i) s = _
  unfold execOpenTimeExpiry
  dsimp only
  rw [hz]
  exact congrArg _ (if_pos ⟨ha, Option.isSome_iff_ne_none.mpr ht⟩)

theorem incomingTimeOut_of_incoming {i : Nat} {r : IncomingRecord} (ha : s.isActive) (hr : s.zt.incoming[i]? = some r)
    (ht : r.book.openTime ≠ none) : exec (.openTimeExpiry (.incoming i)) s = .next (s.incomingTimeOut i r) := by
  show execOpenTimeExpiry (.incoming i) s = _
  unfold execOpenTimeExpiry
  dsimp only
  rw [hr]
  exact congrArg _ (if_pos ⟨ha, Option.isSome_iff_ne_none.mpr ht⟩)

/-- The station once open time has run out on the zone record at a place. -/
def State.zoneOutOfTime (i : Nat) (z : ZoneRecord) (s : State) : State := { s with
  zt.zone := s.zt.zone.set i { z with book := z.book.addMark .openTime s.own }
  port := (s.port.setLatch .openTime).append .openTime z.book.tag .none }

theorem zoneTimeOut_eq (i : Nat) (z : ZoneRecord) (s : State) : s.zoneTimeOut i z =
    if z.phase = .atWork then (s.zoneOutOfTime i z).afterMark else s.zoneOutOfTime i z := rfl

end

/-- Settles O44: by the list, the phase, and the press work. -/
theorem openTimeExpiryMarksTheRecord : Obligations.OpenTimeExpiryMarksTheRecord := by
  intro i s ha
  refine ⟨fun r hr ht => incomingTimeOut_of_incoming ha hr ht,
    fun z hz ht => ⟨fun hnot => ?_, fun hphase hrole hpress => ?_⟩⟩
  · rw [zoneTimeOut_of_zone ha hz ht, zoneTimeOut_eq]
    by_cases hphase : z.phase = .atWork
    · rw [if_pos hphase, afterMark_of_goes (u := s.zoneOutOfTime i z) fun h => hnot ⟨hphase, h⟩]
      rfl
    · rw [if_neg hphase]
      rfl
  · rw [zoneTimeOut_of_zone ha hz ht, zoneTimeOut_eq, if_pos hphase,
      afterMark_of_waits (u := s.zoneOutOfTime i z) hrole hpress]
    exact leavesWaitShare_leaveWait (u := s.zoneOutOfTime i z) ha

section
variable {s : State}

theorem entryTrailingEdge_of_running (h : s.mem.station = .running) :
    exec .entryTrailingEdge s = .next s.entryTrailing := congrArg Host.Outcome.next (if_pos h)

theorem entryTrailing_of_none (h : ∀ z ∈ s.zt.zone, z.counting = false) : s.entryTrailing = { s with
    zt.eyes.entry := false, port := s.port.append .eyeOrder 0 (.value 1) } := by
  have hnone : s.zt.zone.find? ZoneRecord.counting = none :=
    List.find?_eq_none.mpr fun z hz => by rw [h z hz]; decide
  unfold State.entryTrailing
  rw [hnone]
  rfl

/-- The station once the record whose count ran holds the book `b`. -/
def State.lengthStored (b : BookRecord) (s : State) : State := { s with
  zt.eyes.entry := false
  zt.zone := mapFirst (fun y => y.counting) (fun y => { y with book := b, counting := false }) s.zt.zone }

/-- The measured length, mm (R8, R65). -/
def State.lengthNow (s : State) : Nat := min 1023 (s.zt.lengthCount / s.scale)

/-- The station once the length measured is stored and found out of tolerance. -/
def State.lengthMarked (z : ZoneRecord) (s : State) : State :=
  { s.lengthStored (BookRecord.addMark .length s.own { z.book with length := some s.lengthNow }) with
    port := (s.port.setLatch .lengthFault).append .length z.book.tag (.value s.lengthNow) }

theorem entryTrailing_of_counting {z : ZoneRecord} (hz : s.zt.zone.find? (fun y => y.counting) = some z) :
    (¬ lengthOff s z.book s.lengthNow → s.entryTrailing = s.lengthStored { z.book with length := some s.lengthNow }) ∧
    (lengthOff s z.book s.lengthNow → s.entryTrailing =
      if z.phase = .atWork then (s.lengthMarked z).afterMark else s.lengthMarked z) := by
  have hstore : s.entryTrailing = State.storeLength z { s with zt.eyes.entry := false } := by
    unfold State.entryTrailing
    rw [show s.zt.zone.find? ZoneRecord.counting = some z from hz]
  rw [hstore]
  unfold State.storeLength
  dsimp only
  refine ⟨fun h => ?_, fun h => ?_⟩
  · have hpasses : State.lengthFails { s with zt.eyes.entry := false } z.book
        (State.measured { s with zt.eyes.entry := false } s.zt.lengthCount) = false :=
      Bool.eq_false_iff.mpr (mt (lengthFails_iff s z.book s.lengthNow).mp h)
    simp only [hpasses, Bool.false_eq_true, if_false]
    rfl
  · have hfails : State.lengthFails { s with zt.eyes.entry := false } z.book
        (State.measured { s with zt.eyes.entry := false } s.zt.lengthCount) = true :=
      (lengthFails_iff s z.book s.lengthNow).mpr h
    simp only [hfails, if_true]
    rfl

end

/-- Settles O43: by the count that runs, the length, and the press work. -/
theorem entryTrailingEdgeMeasuresTheRecord : Obligations.EntryTrailingEdgeMeasuresTheRecord := by
  intro s hrun
  refine ⟨fun hnone => ?_, fun z hz => ?_⟩
  · rw [entryTrailingEdge_of_running hrun, entryTrailing_of_none hnone]
  · obtain ⟨hpasses, hfails⟩ := entryTrailing_of_counting hz
    rw [entryTrailingEdge_of_running hrun]
    refine ⟨fun h => congrArg Host.Outcome.next (hpasses h), fun h hnot => ?_, fun h hwaits => ?_⟩
    · rw [hfails h]
      by_cases hphase : z.phase = .atWork
      · rw [if_pos hphase, afterMark_of_goes (u := s.lengthMarked z) fun h => hnot ⟨hphase, h⟩]
        rfl
      · rw [if_neg hphase]
        rfl
    · obtain ⟨hphase, hrole, hpress⟩ := hwaits
      rw [hfails h, if_pos hphase, afterMark_of_waits (u := s.lengthMarked z) hrole hpress]
      exact leavesWaitShare_leaveWait (u := s.lengthMarked z) (.inr hrun)

end Sys2Proof.Machine

namespace Sys2Proof.Machine

/-! ### The entry eye (O42) -/

section
variable {s u : State}

/-- Room judged, with nothing queued before it. -/
theorem judgeRoom_spec (hu : s.besideLists u) (ha : s.isActive) (hq : s.bus.txq.length < Config.txqCap) :
    roomFollows [] s u.judgeRoom ∧ u.judgeRoom = { u with
      bus := u.judgeRoom.bus
      zt := { u.zt with roomOpen := u.judgeRoom.zt.roomOpen, announced := u.judgeRoom.zt.announced } } := by
  have hnothing : ({ u with bus.txq := u.bus.txq ++ [] } : State) = u := by rw [List.append_nil]
  have hspec := judgeRoom_after [] hu ha (by rw [List.append_nil]; exact hq)
  rw [hnothing] at hspec
  exact hspec

theorem entryEdge_of_running (h : s.mem.station = .running) : exec .entryLeadingEdge s = .next s.entryLeading :=
  congrArg Host.Outcome.next (if_pos h)

theorem entryLeading_of_infeed (hr : s.role = some .infeed) :
    s.entryLeading = State.entryInfeed { s with zt.eyes.entry := true } := if_pos hr

theorem entryLeading_of_other (hr : s.role ≠ some .infeed) :
    s.entryLeading = State.entryOther { s with zt.eyes.entry := true } := if_neg hr

theorem zoneFull_iff (s : State) : s.zoneFull = true ↔ 8 ≤ s.zt.zone.length := decide_eq_true_iff

theorem entryOther_of_full (h : 8 ≤ s.zt.zone.length) : s.entryOther = s.entryOverrun :=
  if_pos ((zoneFull_iff s).mpr h)

theorem entryOther_of_incoming {r : IncomingRecord} {rest : List IncomingRecord} (h : s.zt.zone.length < 8)
    (hr : s.zt.incoming = r :: rest) : s.entryOther =
      State.enterZone ⟨r.book, .entering, none, true, false, r.step⟩ { s with zt.incoming := rest } := by
  unfold State.entryOther
  rw [if_neg (mt (zoneFull_iff s).mp (Nat.not_le.mpr h)), hr]
  rfl

theorem entryOther_of_empty (h : s.zt.zone.length < 8) (hr : s.zt.incoming = []) : s.entryOther = s.provisional := by
  unfold State.entryOther
  rw [if_neg (mt (zoneFull_iff s).mp (Nat.not_le.mpr h)), hr]

theorem entryOverrun_of_empty (h : s.zt.incoming = []) : s.entryOverrun = s.overrunNoRecord := by
  unfold State.entryOverrun
  rw [h]

theorem entryOverrun_of_incoming {r : IncomingRecord} {rest : List IncomingRecord} (h : s.zt.incoming = r :: rest) :
    s.entryOverrun =
      (State.drop .zoneOverrun .none r.book { s with zt.incoming := rest }).andThen State.judgeRoom := by
  unfold State.entryOverrun
  rw [h]

/-- The provisional record of an entry edge that finds no incoming record (R61). -/
def State.provisionalRecord (s : State) : ZoneRecord :=
  if s.adoptionCounts = 0 then ⟨(BookRecord.created 0).addMark .unknown s.own, .entering, none, true, false, 0⟩
  else ⟨BookRecord.created 0, .entering, some s.adoptionCounts, true, false, 0⟩

/-- The port once a provisional record is created. -/
def State.provisionalPort (s : State) : PortUnit :=
  if s.adoptionCounts = 0 then (s.port.setLatch .arrivalUnknown).append .arrivalUnknown 0 .none else s.port

/-- The station once a provisional record has entered, before its room is judged. -/
def State.provisionalEntered (s : State) : State :=
  { s with zt.zone := enteredZone s s.provisionalRecord, zt.lengthCount := 0, port := s.provisionalPort }

theorem provisional_eq (s : State) : s.provisional = s.provisionalEntered.judgeRoom.andThen State.judgeKeepwarm := by
  unfold State.provisional State.provisionalEntered State.provisionalRecord State.provisionalPort
  by_cases h : s.adoptionCounts = 0
  · simp only [h, if_true]
    rfl
  · simp only [h, if_false]
    rfl

end

/-- Settles O42: by the role, the zone list and the incoming head. -/
theorem entryEdgesTakeTheNextRecord : Obligations.EntryEdgesTakeTheNextRecord := by
  intro s hrun hq
  have hedge := entryEdge_of_running hrun
  have hfree : s.bus.txq.length < Config.txqCap := Nat.lt_of_le_of_lt hq (by decide)
  refine ⟨fun hr hroom => ?_, fun hfull hnone => ?_, fun hr => ⟨fun r rest hroom hin => ?_, fun hroom hin => ?_,
    fun r rest hfull hin => ?_⟩⟩
  · have hinfeed : s.entryLeading = State.judgeRoom (State.enterZone
        ⟨BookRecord.created s.zt.tagCounter, .entering, none, true, false, 0⟩
        { s with zt.eyes.entry := true, zt.tagCounter := nextTag s.zt.tagCounter }) :=
      (entryLeading_of_infeed hr).trans (if_neg (mt (zoneFull_iff s).mp (Nat.not_le.mpr hroom)))
    obtain ⟨hfollows, hframe⟩ := judgeRoom_spec (s := { s with zt.tagCounter := nextTag s.zt.tagCounter })
      (u := State.enterZone ⟨BookRecord.created s.zt.tagCounter, .entering, none, true, false, 0⟩
        { s with zt.eyes.entry := true, zt.tagCounter := nextTag s.zt.tagCounter })
      ⟨rfl, rfl, rfl, rfl, rfl, rfl⟩ (.inr hrun) hfree
    rw [← hinfeed] at hfollows hframe
    refine ⟨_, hedge, ?_, ?_, ?_, ?_, ?_, hfollows, ?_⟩
    all_goals
      rw [hframe]
      rfl
  · rw [hedge]
    rcases hnone with hr | hin
    · rw [entryLeading_of_infeed hr]
      exact congrArg _ (if_pos ((zoneFull_iff s).mpr hfull))
    · by_cases hr : s.role = some .infeed
      · rw [entryLeading_of_infeed hr]
        exact congrArg _ (if_pos ((zoneFull_iff s).mpr hfull))
      · rw [entryLeading_of_other hr, entryOther_of_full (s := { s with zt.eyes.entry := true }) hfull,
          entryOverrun_of_empty (s := { s with zt.eyes.entry := true }) hin]
        rfl
  · rw [hedge, entryLeading_of_other hr, entryOther_of_incoming (s := { s with zt.eyes.entry := true }) hroom hin]
    rfl
  · have hprovisional : s.entryLeading = (State.provisionalEntered { s with zt.eyes.entry := true }).judgeRoom.andThen
        State.judgeKeepwarm := by
      rw [entryLeading_of_other hr, entryOther_of_empty (s := { s with zt.eyes.entry := true }) hroom hin, provisional_eq]
    obtain ⟨hfollows, hframe⟩ := judgeRoom_spec (s := s) (u := State.provisionalEntered { s with zt.eyes.entry := true })
      ⟨rfl, rfl, rfl, rfl, rfl, rfl⟩ (.inr hrun) hfree
    rw [andThen_of_active _ (by rw [hframe]; exact .inr hrun)] at hprovisional
    rw [hedge, hprovisional]
    exact ⟨_, _, rfl, warmthAsked_judgeKeepwarm _, hfollows, hframe⟩
  · have hoverrun : s.entryLeading = (State.drop .zoneOverrun .none r.book
        { s with zt.eyes.entry := true, zt.incoming := rest }).andThen State.judgeRoom := by
      rw [entryLeading_of_other hr, entryOther_of_full (s := { s with zt.eyes.entry := true }) hfull,
        entryOverrun_of_incoming (s := { s with zt.eyes.entry := true }) hin]
    obtain ⟨hdeparted, hzone, hincoming, -, -, -, hlatch, hjournal⟩ := dropped_spec .zoneOverrun .none r.book (s := s)
      (u := { s with zt.eyes.entry := true, zt.incoming := rest }) ⟨rfl, rfl, rfl, rfl, rfl, rfl⟩ rfl (.inr hrun) hq
    rw [hedge, hoverrun]
    exact ⟨_, rfl, hzone, hincoming, hdeparted, hlatch, hjournal⟩

end Sys2Proof.Machine

namespace Sys2Proof.Machine

/-! ### The timers of the heat share (O52) -/

section
variable {s : State}

theorem giveUp_of_waiting (ha : s.isActive) (hq : s.bus.txq.length < Config.txqCap)
    (h : s.heat.claim = .queued ∨ s.heat.claim = .waiting) : s.giveUp = { s with
      bus.txq := s.bus.txq ++ [⟨.withdraw, 0⟩]
      heat.claim := .returning, heat.use := .none, heat.claimWait := none } := by
  rw [giveUp_of_room ha hq]
  unfold HeatShare.givenUp givenUpNotices
  rcases h with h | h <;> simp only [h]

theorem claimWaitLimit_of_waiting (hrun : s.mem.station = .running) (h : s.heat.claim = .waiting)
    (hw : s.heat.claimWait ≠ none) : exec .claimWaitLimit s = .next s.starve :=
  congrArg Host.Outcome.next (if_pos ⟨hrun, h, Option.isSome_iff_ne_none.mpr hw⟩)

/-- The tag that the entry of a starved claim has (R137). -/
def State.starvedTag (s : State) : W16 := if s.heat.use = .book then s.workTag else 0

/-- The station once its starved claim is withdrawn and journalled. -/
def State.starved (s : State) : State := { s with
  bus.txq := s.bus.txq ++ [⟨.withdraw, 0⟩]
  heat.claim := .returning, heat.use := .none, heat.claimWait := none
  port := (s.port.setLatch .claimStarved).append .claimStarved s.starvedTag
    (.pair s.waitClass.code s.heat.use.code) }

theorem starve_of_room (ha : s.isActive) (hq : s.bus.txq.length < Config.txqCap) (h : s.heat.claim = .waiting) :
    s.starve = if s.heat.use = .book then (s.starved.markAtWork .heatStarved).finishPress else s.starved := by
  unfold State.starve
  dsimp only
  rw [giveUp_of_waiting ha hq (.inr h), andThen_of_active _ (by exact ha)]
  rfl

/-- Press work that ends while the claim is not NONE asks for nothing. -/
theorem finishPress_of_claim (h : s.heat.claim ≠ .none) : s.finishPress = { s with
    zt.zone := mapFirst (fun y => y.phase == .atWork) workDone s.zt.zone, work := pressIdle s.work } :=
  judgeKeepwarm_of_claim (s := { s with
    zt.zone := mapFirst (fun y => y.phase == .atWork) workDone s.zt.zone, work := pressIdle s.work }) h

theorem starved_press (s : State) : (s.starved.markAtWork .heatStarved).finishPress = { s.starved with
    zt.zone := mapFirst (fun y => y.phase == .atWork)
      (fun y => { y with book := y.book.addMark .heatStarved s.own, phase := .worked }) s.zt.zone
    work := pressIdle s.work } := by
  have hclaim : (s.starved.markAtWork .heatStarved).heat.claim ≠ .none := by
    show ClaimState.returning ≠ .none
    decide
  have hzone : mapFirst (fun y : ZoneRecord => y.phase == .atWork) workDone
      (mapFirst (fun y => y.phase == .atWork) (ZoneRecord.onBook (BookRecord.addMark .heatStarved s.own)) s.zt.zone) =
      mapFirst (fun y => y.phase == .atWork)
        (fun y => { y with book := y.book.addMark .heatStarved s.own, phase := .worked }) s.zt.zone :=
    mapFirst_mapFirst (p := fun y : ZoneRecord => y.phase == .atWork)
      (f := ZoneRecord.onBook (BookRecord.addMark .heatStarved s.own)) (fun _ h => h) s.zt.zone
  rw [finishPress_of_claim hclaim, ← hzone]
  rfl

theorem waitClass_code {e : WaitEntry} (h : s.heat.waits.find? (fun e => e.position == s.own) = some e) :
    s.waitClass.code = if e.cls = .book then 1 else 0 := by
  unfold State.waitClass
  rw [h]
  cases hcls : e.cls <;> simp only [Option.map_some, Option.getD_some, hcls] <;> rfl

theorem keepwarmDue_of_warm (hrun : s.mem.station = .running) {left : Nat} (hleft : s.heat.warmLeft = some left)
    (hdue : s.heat.due = false) : exec .keepwarmDue s = .next (s.fallDue left) := by
  show execKeepwarmDue s = _
  unfold execKeepwarmDue
  rw [hleft]
  exact congrArg _ (if_pos ⟨hrun, by rw [hdue]; decide⟩)

theorem warmTimerExpiry_of_warm (hrun : s.mem.station = .running) (h : s.heat.warmLeft ≠ none) :
    exec .warmTimerExpiry s = .next s.goCold :=
  congrArg Host.Outcome.next (if_pos ⟨hrun, Option.isSome_iff_ne_none.mpr h⟩)

theorem burstEnd_of_burst (hrun : s.mem.station = .running) (h : s.heat.burst ≠ none) :
    exec .burstEnd s = .next s.endBurst :=
  congrArg Host.Outcome.next (if_pos ⟨hrun, Option.isSome_iff_ne_none.mpr h⟩)

theorem endBurst_of_holding (ha : s.isActive) (hq : s.bus.txq.length < Config.txqCap) (h : s.heat.claim = .holding) :
    s.endBurst = { s with
      bus.txq := s.bus.txq ++ [⟨.release, 0⟩]
      heat := { s.heat with
        burst := none, warm := true, warmLeft := some s.keepwarmMs, due := false, claim := .returning, use := .none } } :=
  giveUp_of_holding_of_room (s := State.warmBar { s with heat.burst := none }) h ha hq

/-- The station once its bar is COLD. -/
def State.barCold (s : State) : State := { s with heat.warm := false, heat.warmLeft := none, heat.due := false }

theorem goCold_of_lapse (ha : s.isActive) (hq : s.bus.txq.length < Config.txqCap)
    (h : s.heat.claim = .queued ∨ s.heat.claim = .waiting) (huse : s.heat.use = .keepwarm) : s.goCold =
    { s.barCold with
      bus.txq := s.bus.txq ++ [⟨.withdraw, 0⟩]
      heat.claim := .returning, heat.use := .none, heat.claimWait := none
      port := s.port.append .keepwarmLapsed 0 .none } := by
  have hlapse : s.goCold = s.barCold.giveUp.andThen fun t => t.log .keepwarmLapsed 0 .none := if_pos ⟨h, huse⟩
  rw [hlapse, giveUp_of_waiting (s := s.barCold) ha hq h, andThen_of_active _ (by exact ha)]
  rfl

end

/-- Settles O52: each timer in turn. -/
theorem heatTimersAct : Obligations.HeatTimersAct := by
  intro s hrun hq
  refine ⟨fun h => ?_, fun hclaim hw => ?_, fun left hleft hdue => ?_, fun hwarm => ⟨fun hlapses => ?_, fun hnot => ?_⟩,
    fun hburst hclaim => ?_⟩
  · exact ⟨_, congrArg Host.Outcome.next (if_pos ⟨.inr hrun, Option.isSome_iff_ne_none.mpr h⟩), 
      holdOffEnds_claimsOpen (u := { s with heat.holdOff := none }) rfl⟩
  · rw [claimWaitLimit_of_waiting hrun hclaim hw, starve_of_room (.inr hrun) hq hclaim]
    by_cases huse : s.heat.use = .book
    · rw [if_pos huse, starved_press]
      refine ⟨_, rfl, rfl, rfl, ?_, ⟨s.waitClass.code, ?_, fun e he => waitClass_code he⟩, fun h => absurd huse h,
        fun _ => ⟨rfl, rfl⟩⟩
      · exact append_latch_of_set _ _ _ (by simp [PortUnit.setLatch, Latch.index])
      · exact append_journal_getLast? _ _ _ _
    · rw [if_neg huse]
      refine ⟨_, rfl, rfl, rfl, ?_, ⟨s.waitClass.code, ?_, fun e he => waitClass_code he⟩, fun _ => ⟨rfl, rfl⟩,
        fun h => absurd h huse⟩
      · exact append_latch_of_set _ _ _ (by simp [PortUnit.setLatch, Latch.index])
      · exact append_journal_getLast? _ _ _ _
  · obtain ⟨hwarm, hcold⟩ := warmthAsked_judgeKeepwarm
      { s with heat.due := true, heat.warmLeft := some (min left s.halfKeepwarm) }
    rw [keepwarmDue_of_warm hrun hleft hdue]
    refine ⟨fun hasks => congrArg _ (hwarm ?_ hq), fun hasks => congrArg _ (hcold ?_)⟩
    · obtain ⟨hrole, hclaim, hoff, hbar, hwork⟩ := hasks
      exact ⟨hrole, hrun, hclaim, hoff, rfl, hbar, hwork⟩
    · rintro ⟨hrole, -, hclaim, hoff, -, hbar, hwork⟩
      exact hasks ⟨hrole, hclaim, hoff, hbar, hwork⟩
  · obtain ⟨hclaim, huse⟩ := hlapses
    rw [warmTimerExpiry_of_warm hrun hwarm, goCold_of_lapse (.inr hrun) hq hclaim huse]
    rfl
  · rw [warmTimerExpiry_of_warm hrun hwarm]
    exact congrArg _ (if_neg hnot)
  · rw [burstEnd_of_burst hrun hburst, endBurst_of_holding (.inr hrun) hq hclaim]

end Sys2Proof.Machine

namespace Sys2Proof.Machine

/-! ### The phases of the press (O53) -/

/-- The first record picked, after a change of it that keeps it picked. -/
theorem find?_mapFirst {α : Type} {p : α → Bool} {f : α → α} (hf : ∀ x, p x = true → p (f x) = true) (l : List α) :
    (mapFirst p f l).find? p = (l.find? p).map f := by
  induction l with
  | nil => rfl
  | cons x xs ih =>
    by_cases hx : p x = true
    · simp only [mapFirst, hx, if_true, List.find?_cons_of_pos, hf x hx, Option.map_some]
    · simp only [mapFirst, hx, if_false, Bool.false_eq_true, List.find?_cons_of_neg, not_false_eq_true, ih]

section
variable {s : State}

theorem atWork?_onBook (f : BookRecord → BookRecord) (u : State) :
    (u.onAtWork (ZoneRecord.onBook f)).atWork? = u.atWork?.map (ZoneRecord.onBook f) :=
  find?_mapFirst (p := fun z : ZoneRecord => z.phase == .atWork) (f := ZoneRecord.onBook f) (fun _ h => h) u.zt.zone

theorem credited_eq_heated (s : State) (portion : Nat) : s.credited portion = heated s portion := by
  funext b
  unfold State.credited heated
  cases b.format <;> rfl

theorem heated_tag (s : State) (portion : Nat) (b : BookRecord) :
    (heated s portion b).tag = b.tag ∧ (heated s portion b).format = b.format := ⟨rfl, rfl⟩

/-- The station once a heat phase has ended and its portion is credited (R152, R159). -/
def State.heatOver (portion : Nat) (s : State) : State := { s with
  bus.txq := s.bus.txq ++ [⟨.release, 0⟩]
  heat := heatEnded s
  work := { s.work with
    heat := none, book := { s.work.book with credited := s.work.book.credited + portion } }
  zt.zone := mapFirst (fun y => y.phase == .atWork) (fun y => { y with book := heated s portion y.book }) s.zt.zone }

theorem endHeat_of_holding (portion : Nat) (ha : s.isActive) (hq : s.bus.txq.length < Config.txqCap)
    (h : s.heat.claim = .holding) : s.endHeat portion = s.heatOver portion := by
  unfold State.endHeat
  rw [credited_eq_heated]
  exact giveUp_of_holding_of_room (s := { s with
    heat := { s.heat with warm := true, warmLeft := some s.keepwarmMs, due := false }
    work := { s.work with heat := none, book := { s.work.book with credited := s.work.book.credited + portion } }
    zt.zone := mapFirst (fun y => y.phase == .atWork) (ZoneRecord.onBook (heated s portion)) s.zt.zone }) h ha hq

theorem heatOver_atWork {z : ZoneRecord} (hz : s.atWork? = some z) (portion : Nat) :
    (s.heatOver portion).atWork? = some { z with book := heated s portion z.book } := by
  have hfind := atWork?_onBook (heated s portion) s
  rw [hz] at hfind
  exact hfind

/-- The port once the end of a heat phase is journalled. -/
def heatedPort (b : BookRecord) (p : PortUnit) : PortUnit :=
  if b.pressed then p.append .pressed b.tag .none else p.append .heatPartial b.tag (.value b.heatDone)

theorem noteHeated_of_atWork {z : ZoneRecord} (hz : s.atWork? = some z) :
    s.noteHeated = { s with port := heatedPort z.book s.port } := by
  unfold State.noteHeated heatedPort
  rw [hz]
  dsimp only
  split <;> rfl

/-- The set phase entered, or over at once (R154). -/
theorem enterSet_of_atWork {z : ZoneRecord} (hz : s.atWork? = some z) : s.enterSet =
    if s.setTimeOf z.book * 100 = 0 then
      State.finishPress { s with work := { s.work with press := .set, setLeft := some 0, suspendLeft := none } }
    else { s with work := { s.work with
      press := .set, setLeft := some (s.setTimeOf z.book * 100), suspendLeft := none } } := by
  unfold State.enterSet
  rw [hz]
  dsimp only
  by_cases h : s.setTimeOf z.book * 100 = 0
  · rw [if_pos h, if_pos h, h]
  · rw [if_neg h, if_neg h]

/-- The length of the set phase of a book, ms. -/
theorem setTimeOf_eq (s : State) (b : BookRecord) :
    (∀ f, b.format = some f → s.setTimeOf b * 100 = (s.params.formats[f]).setTime.toNat * 100) ∧
    (b.format = none → s.setTimeOf b * 100 = 0) := by
  unfold State.setTimeOf
  refine ⟨fun f hf => ?_, fun hf => ?_⟩
  · rw [hf]
    rfl
  · rw [hf]
    rfl

/-- The station once the end of its heat phase is journalled. -/
def State.heatNoted (portion : Nat) (z : ZoneRecord) (s : State) : State :=
  { s.heatOver portion with port := heatedPort (heated s portion z.book) s.port }

theorem heatPhaseEnd_of_holding {z : ZoneRecord} {h : HeatPhase} (hrun : s.mem.station = .running)
    (hz : s.atWork? = some z) (hh : s.work.heat = some h) (hp : s.work.press = .heat) (hc : s.heat.claim = .holding)
    (hq : s.bus.txq.length < Config.txqCap) : exec .heatPhaseEnd s = .next (s.heatNoted h.book z).enterSet := by
  have hexec : exec .heatPhaseEnd s = .next (s.finishHeat h) := by
    show execHeatPhaseEnd s = _
    unfold execHeatPhaseEnd
    rw [hh]
    exact congrArg _ (if_pos ⟨hrun, hp⟩)
  rw [hexec]
  unfold State.finishHeat
  rw [endHeat_of_holding h.book (.inr hrun) hq hc, andThen_of_active _ (by exact .inr hrun),
    noteHeated_of_atWork (heatOver_atWork hz h.book)]
  rfl

/-- What follows the end of a heat phase, by the length of the set phase. -/
theorem heatNoted_enterSet {z : ZoneRecord} {portion ms : Nat} (hz : s.atWork? = some z)
    (hms : s.setTimeOf z.book * 100 = ms) :
    (ms ≠ 0 → (s.heatNoted portion z).enterSet = { s.heatNoted portion z with
      work := { s.work with
        press := .set, heat := none, setLeft := some ms, suspendLeft := none
        book := { s.work.book with credited := s.work.book.credited + portion } } }) ∧
    (ms = 0 → (s.heatNoted portion z).enterSet = { s.heatNoted portion z with
      zt.zone := mapFirst (fun y => y.phase == .atWork)
        (fun y => { y with book := heated s portion y.book, phase := .worked }) s.zt.zone
      work := pressIdle s.work }) := by
  have hset := enterSet_of_atWork (s := s.heatNoted portion z) (heatOver_atWork hz portion)
  have hsame : (s.heatNoted portion z).setTimeOf (heated s portion z.book) = s.setTimeOf z.book := rfl
  dsimp only at hset
  rw [hsame, hms] at hset
  refine ⟨fun h => ?_, fun h => ?_⟩
  · rw [hset, if_neg h]
    rfl
  · have hzone : mapFirst (fun y : ZoneRecord => y.phase == .atWork) workDone
        (mapFirst (fun y => y.phase == .atWork) (ZoneRecord.onBook (heated s portion)) s.zt.zone) =
        mapFirst (fun y => y.phase == .atWork)
          (fun y => { y with book := heated s portion y.book, phase := .worked }) s.zt.zone :=
      mapFirst_mapFirst (p := fun y : ZoneRecord => y.phase == .atWork) (f := ZoneRecord.onBook (heated s portion))
        (fun _ h => h) s.zt.zone
    rw [hset, if_pos h, finishPress_of_claim (by show ClaimState.returning ≠ .none; decide), ← hzone]
    rfl

end

/-- Settles O53: the heat phase, the set phase and the suspension. -/
theorem pressPhasesEnd : Obligations.PressPhasesEnd := by
  intro s z hrun hz
  refine ⟨fun h hh hp hc hq => ?_, fun hp => ?_, fun hp hleft => ?_⟩
  · rw [heatPhaseEnd_of_holding hrun hz hh hp hc hq]
    obtain ⟨hsome, hnone⟩ := setTimeOf_eq s z.book
    cases hf : z.book.format with
    | none =>
      obtain ⟨-, hzero⟩ := heatNoted_enterSet (portion := h.book) hz (hnone hf)
      exact ⟨fun h => absurd rfl h, fun h => congrArg _ (hzero h)⟩
    | some f =>
      obtain ⟨hset, hzero⟩ := heatNoted_enterSet (portion := h.book) hz (hsome f hf)
      exact ⟨fun h => congrArg _ (hset h), fun h => congrArg _ (hzero h)⟩
  · exact ⟨_, congrArg Host.Outcome.next (if_pos ⟨hrun, hp⟩), warmthAsked_judgeKeepwarm _⟩
  · refine (congrArg Host.Outcome.next (if_pos ⟨hrun, hp, Option.isSome_iff_ne_none.mpr hleft⟩)).trans ?_
    unfold State.suspendExpired
    rw [workTag_of_atWork hz]
    rfl

end Sys2Proof.Machine

namespace Sys2Proof.Machine

/-! ### The guard (O54) -/

section
variable {s u : State}

/-- The station once its guard input has changed and GUARD with it (R97, R99). -/
def State.guardMoved (s : State) (open_ : Bool) : State :=
  let r : Reasons := { s.mem.ownStop with guard := open_ }
  let kept := s.mem.ownStop.guard = open_
  { s with
    mem := { s.mem with guardOpen := open_, ownStop := r }
    bus.txq := s.bus.txq ++ (if kept then [] else [⟨if r.isEmpty then .go else .stop r, 0⟩])
    port := if kept then s.port else s.port.append .ownStop 0 (.value r.toNat) }

theorem guard_same_iff (r : Reasons) (o : Bool) : { r with guard := o } = r ↔ r.guard = o := by
  refine ⟨fun h => h ▸ rfl, fun h => ?_⟩
  subst h
  rfl

theorem setOwnStop_guard (open_ : Bool) (ha : s.isActive) (hq : s.bus.txq.length < Config.txqCap) :
    State.setOwnStop { s.mem.ownStop with guard := open_ } { s with mem.guardOpen := open_ } = s.guardMoved open_ := by
  unfold State.guardMoved
  dsimp only
  by_cases h : s.mem.ownStop.guard = open_
  · have hsame := (guard_same_iff s.mem.ownStop open_).mpr h
    rw [if_pos h, if_pos h, setOwnStop_same _ { s with mem.guardOpen := open_ } hsame, List.append_nil, hsame]
  · rw [if_neg h, if_neg h, setOwnStop_of_change (s := { s with mem.guardOpen := open_ }) ha hq
      (mt (guard_same_iff s.mem.ownStop open_).mp h)]

theorem guardMoved_port (s : State) (open_ : Bool) : (s.guardMoved open_).port.stamp = s.port.stamp := by
  unfold State.guardMoved
  dsimp only
  split
  · rfl
  · exact append_stamp _ _ _ _

theorem guardMoved_room (hq : s.bus.txq.length ≤ 13) (open_ : Bool) :
    (s.guardMoved open_).bus.txq.length < Config.txqCap := by
  show (s.bus.txq ++ _).length < 16
  rw [List.length_append]
  split
  · rw [List.length_nil]; omega
  · rw [List.length_singleton]; omega

theorem guardOpens_of_running (h : s.mem.station = .running) (hq : s.bus.txq.length ≤ 13) :
    exec .guardOpens s = .next (s.guardMoved true).pressGuardOpens := by
  have hmoved := setOwnStop_guard true (.inr h) (Nat.lt_of_le_of_lt hq (by decide))
  refine (congrArg Host.Outcome.next (if_pos h)).trans (congrArg _ ?_)
  unfold State.guardOpened
  rw [show State.addGuard { s with mem.guardOpen := true } = s.guardMoved true from hmoved]
  exact andThen_of_active _ (.inr h)

theorem guardCloses_of_running (h : s.mem.station = .running) (hq : s.bus.txq.length ≤ 13) :
    exec .guardCloses s = .next (s.guardMoved false).pressGuardCloses := by
  have hmoved := setOwnStop_guard false (.inr h) (Nat.lt_of_le_of_lt hq (by decide))
  refine (congrArg Host.Outcome.next (if_pos h)).trans (congrArg _ ?_)
  unfold State.guardClosed
  rw [show State.removeGuard { s with mem.guardOpen := false } = s.guardMoved false from hmoved]
  exact andThen_of_active _ (.inr h)

theorem pressGuardOpens_of_heat {h : HeatPhase} (hh : u.work.heat = some h) (hp : u.work.press = .heat) :
    u.pressGuardOpens = u.suspend h := by
  unfold State.pressGuardOpens
  rw [hh]
  exact if_pos hp

theorem pressGuardOpens_of_no_heat (hh : u.work.heat = none) :
    u.pressGuardOpens = if u.heat.burst.isSome then u.endBurst else u := by
  unfold State.pressGuardOpens
  rw [hh]

theorem workTag_heatOver (portion : Nat) (u : State) : (u.heatOver portion).workTag = u.workTag := by
  have hfind := atWork?_onBook (heated u portion) u
  have hwork : (u.heatOver portion).atWork? = _ := hfind
  unfold State.workTag
  rw [hwork]
  cases u.atWork? <;> rfl

/-- The station once its heat phase is suspended, the max suspend being taken as it is (R159). -/
def State.heatSuspended (h : HeatPhase) (u : State) : State :=
  { u.heatOver h.delivered with
    work := { (u.heatOver h.delivered).work with press := .suspended, suspendLeft := some u.maxSuspendMs }
    port := u.port.append .heatSuspended u.workTag (.value h.delivered) }

theorem suspend_of_holding (h : HeatPhase) (ha : u.isActive) (hq : u.bus.txq.length < Config.txqCap)
    (hc : u.heat.claim = .holding) : u.suspend h =
      if u.maxSuspendMs = 0 then (u.heatSuspended h).suspendExpired else u.heatSuspended h := by
  unfold State.suspend
  dsimp only
  rw [endHeat_of_holding h.delivered ha hq hc, andThen_of_active _ (by exact ha)]
  rw [workTag_heatOver]
  rfl

/-- A suspension that is over at once marks the book (R161). -/
theorem heatSuspended_expired (h : HeatPhase) (u : State) : (u.heatSuspended h).suspendExpired = { u.heatSuspended h with
    work := { (u.heatSuspended h).work with
      suspendLeft := none, book := { (u.heatSuspended h).work.book with suspendReached := true } }
    zt.zone := mapFirst (fun y => y.phase == .atWork)
      (fun y => { y with book := (heated u h.delivered y.book).addMark .dwellBroken u.own }) u.zt.zone
    port := (u.heatSuspended h).suspendExpired.port } := by
  have hzone : mapFirst (fun y : ZoneRecord => y.phase == .atWork) (ZoneRecord.onBook (BookRecord.addMark .dwellBroken u.own))
      (mapFirst (fun y => y.phase == .atWork) (ZoneRecord.onBook (heated u h.delivered)) u.zt.zone) =
      mapFirst (fun y => y.phase == .atWork)
        (fun y => { y with book := (heated u h.delivered y.book).addMark .dwellBroken u.own }) u.zt.zone :=
    mapFirst_mapFirst (p := fun y : ZoneRecord => y.phase == .atWork) (f := ZoneRecord.onBook (heated u h.delivered))
      (fun _ h => h) u.zt.zone
  rw [← hzone]
  rfl

theorem askBook_of_free (hrun : u.mem.station = .running) (hc : u.heat.claim = .none) (hoff : u.heat.holdOff = none)
    (hq : u.bus.txq.length < Config.txqCap) : u.askBook = { u with
      bus.txq := u.bus.txq ++ [⟨.claim .book, 0⟩], heat.claim := .queued, heat.use := .book } := by
  have hnot : ¬ ((u.heat.claim = .queued ∨ u.heat.claim = .waiting) ∧ u.heat.use = .keepwarm) := by
    rw [hc]
    rintro ⟨h | h, -⟩ <;> cases h
  unfold State.askBook
  rw [if_neg hnot, if_pos ((mayClaim_iff u).mpr ⟨hrun, hc, hoff⟩)]
  exact queueClaim_of_room _ _ (.inr hrun) hq

theorem askBook_of_pending (hnot : ¬ (u.heat.claim = .queued ∨ u.heat.claim = .waiting))
    (hmay : ¬ (u.heat.claim = .none ∧ u.heat.holdOff = none)) : u.askBook = { u with heat.pendingBook := true } := by
  unfold State.askBook
  rw [if_neg fun h => hnot h.1, if_neg fun h => hmay ((mayClaim_iff u).mp h).2]

/-- A claim that is RETURNING, or a hold-off that runs, leaves the book's claim pending (R134). -/
theorem askBook_of_busy (h : u.heat.claim = .returning ∨ (u.heat.claim = .none ∧ u.heat.holdOff ≠ none)) :
    u.askBook = { u with heat.pendingBook := true } := by
  rcases h with hc | ⟨hc, hoff⟩
  · exact askBook_of_pending (by rw [hc]; rintro (h | h) <;> cases h) (by rw [hc]; rintro ⟨h, -⟩; cases h)
  · exact askBook_of_pending (by rw [hc]; rintro (h | h) <;> cases h) fun h => hoff h.2

theorem pressGuardCloses_of_goes (h : u.work.press = .heat ∨ u.work.press = .set ∨
    (u.work.press = .waitShare ∧ u.work.book.returned = false)) : u.pressGuardCloses = u := by
  unfold State.pressGuardCloses
  rcases h with h | h | ⟨h, hret⟩
  · rw [h]
  · rw [h]
  · rw [h]
    exact if_neg (by rw [hret]; decide)

theorem pressGuardCloses_of_idle (h : u.work.press = .idle) : u.pressGuardCloses = u.judgeKeepwarm := by
  unfold State.pressGuardCloses
  rw [h]

theorem pressGuardCloses_of_returned (h : u.work.press = .waitShare) (hret : u.work.book.returned = true) :
    u.pressGuardCloses = State.askBook { u with work.book.returned := false } := by
  unfold State.pressGuardCloses
  rw [h]
  exact if_pos hret

theorem pressGuardCloses_of_suspended {z : ZoneRecord} (h : u.work.press = .suspended) (hz : u.atWork? = some z) :
    u.pressGuardCloses = u.closeSuspended z := by
  unfold State.pressGuardCloses
  rw [h, hz]

/-- The station once HEAT_RESUMED is journalled (R160). -/
def State.heatResumed (z : ZoneRecord) (u : State) : State := { u with
  work := { u.work with suspendLeft := none }
  port := u.port.append .heatResumed z.book.tag (.value (u.work.book.allowance - u.work.book.credited)) }

theorem closeSuspended_of_past {z : ZoneRecord} (h : u.work.book.suspendReached = true ∨ z.book.verdict = .reject) :
    u.closeSuspended z = u.finishPress := if_pos h

section
variable {z : ZoneRecord} (hpast : ¬ (u.work.book.suspendReached = true ∨ z.book.verdict = .reject))
include hpast

theorem closeSuspended_of_done (h : z.book.pressed = true ∨ u.work.book.allowance - u.work.book.credited = 0) :
    u.closeSuspended z = (u.heatResumed z).enterSet := by
  unfold State.closeSuspended
  dsimp only
  rw [if_neg hpast, if_pos h]
  rfl

theorem closeSuspended_of_more (hp : z.book.pressed = false) (hr : u.work.book.allowance - u.work.book.credited ≠ 0) :
    u.closeSuspended z = State.askBook { u.heatResumed z with work := { u.work with
      press := .waitShare, suspendLeft := none, book := { u.work.book with resumed := true } } } := by
  unfold State.closeSuspended
  dsimp only
  rw [if_neg hpast, if_neg fun h => h.elim (by rw [hp]; decide) hr]
  rfl

end

end

/-- Settles O54: by the press work at the opening and at the closing. -/
theorem guardStopsAndSuspends : Obligations.GuardStopsAndSuspends := by
  intro s hrun hq
  have hopens := guardOpens_of_running hrun hq
  have hcloses := guardCloses_of_running hrun hq
  have hopenRoom := guardMoved_room hq true
  have hshutRoom := guardMoved_room hq false
  refine ⟨fun hh hb => ?_, fun h hh hp hc => ?_, fun hh hb hc => ?_, fun hgoes => ?_, fun hidle => ?_, fun z hp hz => ?_,
    fun hp hret => ⟨fun hc hoff => ?_, fun hbusy => ?_⟩⟩
  · rw [hopens, pressGuardOpens_of_no_heat (u := s.guardMoved true) hh]
    exact congrArg _ (if_neg (by rw [show (s.guardMoved true).heat.burst = none from hb]; decide))
  · rw [hopens, pressGuardOpens_of_heat (u := s.guardMoved true) hh hp, 
      suspend_of_holding (u := s.guardMoved true) h (.inr hrun) hopenRoom hc]
    have hnewest : ((s.guardMoved true).heatSuspended h).port.journal.getLast? =
        some ⟨.heatSuspended, s.workTag, .value h.delivered, s.port.stamp⟩ := by
      rw [← guardMoved_port s true]
      exact append_journal_getLast? _ _ _ _
    by_cases hmax : s.maxSuspendMs = 0
    · rw [if_pos (show (s.guardMoved true).maxSuspendMs = 0 from hmax), heatSuspended_expired]
      refine ⟨_, rfl, rfl, rfl, rfl, fun h => absurd hmax h, fun _ => ⟨rfl, rfl, rfl⟩, ?_, rfl⟩
      exact mem_append_of_newest (p := ((s.guardMoved true).heatSuspended h).port.setLatch .dwellBroken) _ _ _ hnewest
    · rw [if_neg (show ¬ (s.guardMoved true).maxSuspendMs = 0 from hmax)]
      exact ⟨_, rfl, rfl, rfl, rfl, fun _ => ⟨rfl, rfl⟩, fun h => absurd h hmax,
        List.mem_of_getLast? hnewest, rfl⟩
  · rw [hopens, pressGuardOpens_of_no_heat (u := s.guardMoved true) hh,
      if_pos (show (s.guardMoved true).heat.burst.isSome = true from Option.isSome_iff_ne_none.mpr hb),
      endBurst_of_holding (s := s.guardMoved true) (.inr hrun) hopenRoom hc]
    rfl
  · rw [hcloses, pressGuardCloses_of_goes (u := s.guardMoved false) hgoes]
    rfl
  · rw [hcloses, pressGuardCloses_of_idle (u := s.guardMoved false) hidle]
    exact ⟨_, rfl, warmthAsked_judgeKeepwarm _⟩
  · rw [hcloses, pressGuardCloses_of_suspended (u := s.guardMoved false) hp hz]
    refine ⟨fun hpast => ?_, fun hpast hdone => ?_, fun hpast hpressed hmore => ⟨fun hc hoff => ?_, fun hbusy => ?_⟩⟩
    · rw [closeSuspended_of_past (u := s.guardMoved false) hpast]
      exact ⟨_, rfl, warmthAsked_judgeKeepwarm _⟩
    · rw [closeSuspended_of_done (u := s.guardMoved false) hpast hdone,
        enterSet_of_atWork (s := (s.guardMoved false).heatResumed z) hz,
        show ((s.guardMoved false).heatResumed z).setTimeOf z.book = s.setTimeOf z.book from rfl]
      obtain ⟨hsome, hnone⟩ := setTimeOf_eq s z.book
      cases hf : z.book.format with
      | none =>
        rw [if_pos (hnone hf)]
        exact ⟨fun h => absurd rfl h, fun _ => ⟨_, rfl, warmthAsked_judgeKeepwarm _⟩⟩
      | some f =>
        refine ⟨fun h => ?_, fun h => ?_⟩
        · rw [if_neg (by rw [hsome f hf]; exact h), hsome f hf]
          rfl
        · rw [if_pos ((hsome f hf).trans h)]
          exact ⟨_, rfl, warmthAsked_judgeKeepwarm _⟩
    · rw [closeSuspended_of_more (u := s.guardMoved false) hpast hpressed hmore, askBook_of_free (by exact hrun) (by exact hc)
        (by exact hoff) (by exact hshutRoom)]
      rfl
    · rw [closeSuspended_of_more (u := s.guardMoved false) hpast hpressed hmore, askBook_of_busy (by exact hbusy)]
      rfl
  · rw [hcloses, pressGuardCloses_of_returned (u := s.guardMoved false) hp hret, askBook_of_free (by exact hrun) (by exact hc)
      (by exact hoff) (by exact hshutRoom)]
    rfl
  · rw [hcloses, pressGuardCloses_of_returned (u := s.guardMoved false) hp hret, askBook_of_busy (by exact hbusy)]
    rfl

end Sys2Proof.Machine

namespace Sys2Proof.Machine

/-! ### The work edge (O45, O46, O47) -/

/-- With no record picked by `p`, the first that `q` picks may become one that `p` picks. -/
theorem find?_mapFirst_of_none {α : Type} {p q : α → Bool} {y : α} {l : List α} (hnone : l.find? p = none) {z : α}
    (hz : l.find? q = some z) (hy : p y = true) : (mapFirst q (fun _ => y) l).find? p = some y := by
  induction l with
  | nil => cases hz
  | cons x xs ih =>
    obtain ⟨hx, hxs⟩ := List.find?_eq_none.mp hnone |> List.forall_mem_cons.mp
    by_cases hq : q x = true
    · simp only [mapFirst, hq, if_true, List.find?_cons_of_pos, hy]
    · rw [List.find?_cons_of_neg hq] at hz
      simp only [mapFirst, hq, if_false, Bool.false_eq_true, List.find?_cons_of_neg, hx, not_false_eq_true]
      exact ih (List.find?_eq_none.mpr hxs) hz

/-- A change of that record then is a change of what it became. -/
theorem mapFirst_mapFirst_of_none {α : Type} {p q : α → Bool} {y : α} {f : α → α} {l : List α}
    (hnone : l.find? p = none)
    {z : α} (hz : l.find? q = some z) (hy : p y = true) :
    mapFirst p f (mapFirst q (fun _ => y) l) = mapFirst q (fun _ => f y) l := by
  induction l with
  | nil => cases hz
  | cons x xs ih =>
    obtain ⟨hx, hxs⟩ := List.find?_eq_none.mp hnone |> List.forall_mem_cons.mp
    by_cases hq : q x = true
    · simp only [mapFirst, hq, if_true, hy]
    · rw [List.find?_cons_of_neg hq] at hz
      simp only [mapFirst, hq, if_false, Bool.false_eq_true, hx]
      rw [ih (List.find?_eq_none.mpr hxs) hz]

section
variable {s : State}

theorem workEdge_of_running (h : s.mem.station = .running) : exec (.workLeadingEdge .named) s = .next s.workLeading :=
  congrArg Host.Outcome.next (onEdge_named _ _ h)

section
variable {z : ZoneRecord} (hz : goesToWork s z)
include hz

theorem placeAtWork_eq : State.placeAtWork z { s with zt.eyes.work := true } =
    (workBegins s z (atWorkNow s z)).beginWork := by
  obtain ⟨-, -, hfind⟩ := hz
  have hzone : mapFirst ZoneRecord.isEntering
      (fun y => (if y.adoptable then y.unknown s.own else y).toWork) s.zt.zone =
      mapFirst (fun x => x.phase == .entering) (fun _ => atWorkNow s z) s.zt.zone := by
    refine mapFirst_congr_of_find hfind ?_
    unfold atWorkNow ZoneRecord.adoptable
    cases hadopt : z.adoption with
    | none =>
      rw [if_neg (by decide), if_neg (by decide)]
      unfold ZoneRecord.toWork
      rw [hadopt]
    | some n =>
      rfl
  refine congrArg State.beginWork ?_
  unfold workBegins
  rw [← hzone]
  unfold ZoneRecord.adoptable
  by_cases hadopt : z.adoption.isSome = true
  · rw [if_pos hadopt, if_pos hadopt]
    rfl
  · rw [if_neg hadopt, if_neg hadopt]
    rfl

/-- The edge begins the role's work on the oldest ENTERING record. -/
theorem workEdge_of_goes : exec (.workLeadingEdge .named) s = .next (workBegins s z (atWorkNow s z)).beginWork := by
  obtain ⟨hrun, hnone, hfind⟩ := id hz
  rw [workEdge_of_running hrun, ← placeAtWork_eq hz]
  refine congrArg _ ?_
  unfold State.workLeading
  rw [hnone, show s.zt.zone.find? ZoneRecord.isEntering = some z from hfind]
  rfl

theorem workBegins_atWork : (workBegins s z (atWorkNow s z)).atWork? = some (atWorkNow s z) := by
  obtain ⟨-, hnone, hfind⟩ := hz
  exact find?_mapFirst_of_none hnone hfind rfl

/-- A change of the record at work is a change of the record that has become it. -/
theorem onAtWork_workBegins (f : ZoneRecord → ZoneRecord) :
    (workBegins s z (atWorkNow s z)).onAtWork f = workBegins s z (f (atWorkNow s z)) := by
  obtain ⟨-, hnone, hfind⟩ := hz
  have hzone := mapFirst_mapFirst_of_none (y := atWorkNow s z) (f := f) hnone hfind rfl
  unfold State.onAtWork
  exact congrArg (fun l => ({ workBegins s z (atWorkNow s z) with zt.zone := l } : State)) hzone

end

end

/-! ### Matching at CASE and JACKET (O47) -/

section
variable {u : State} {y : ZoneRecord}

theorem beginWork_of_role (hy : u.atWork? = some y) :
    (u.role = some .infeed → u.beginWork = u.judgeInfeed y) ∧ (u.role = some .case → u.beginWork = u.judgeCase y) ∧
    (u.role = some .press → u.beginWork = u.judgePress y) ∧ (u.role = some .jacket → u.beginWork = u.judgeJacket y) ∧
    (u.role = some .gate → u.beginWork = u.judgeGate y) := by
  unfold State.beginWork
  rw [hy]
  refine ⟨fun h => ?_, fun h => ?_, fun h => ?_, fun h => ?_, fun h => ?_⟩ <;> rw [h]

theorem anonymous_iff (b : BookRecord) : b.anonymous = true ↔ b.tag = 0 := beq_iff_eq

/-- A record that is GOOD and known is neither anonymous nor REJECT. -/
theorem sound_of_good {b : BookRecord} (h : b.verdict = .good ∧ b.tag ≠ 0) :
    ¬ (b.anonymous = true ∨ b.verdict = .reject) := by
  obtain ⟨hv, htag⟩ := h
  rintro (ha | hr)
  · exact htag ((anonymous_iff b).mp ha)
  · rw [hv] at hr
    cases hr

theorem passed_of_not_sound {b : BookRecord} (h : ¬ (b.verdict = .good ∧ b.tag ≠ 0)) :
    b.anonymous = true ∨ b.verdict = .reject := by
  by_cases htag : b.tag = 0
  · exact .inl ((anonymous_iff b).mpr htag)
  · refine .inr ?_
    cases hv : b.verdict with
    | good => exact absurd ⟨hv, htag⟩ h
    | reject => rfl

theorem waitOrMatch_of_busy (b : BookRecord) (h : ¬ (u.work.cycle = none ∧ u.rd.window = none)) :
    u.waitOrMatch b = { u with work.parts := .waiting } := by
  refine if_pos ?_
  rw [Option.isSome_iff_ne_none, Option.isSome_iff_ne_none]
  exact not_and_or.mp h

theorem waitOrMatch_of_free (b : BookRecord) (h : u.work.cycle = none ∧ u.rd.window = none) :
    u.waitOrMatch b = u.match? b := by
  refine if_neg ?_
  rw [h.1, h.2]
  decide

theorem judgeCase_of_passed (h : ¬ (y.book.verdict = .good ∧ y.book.tag ≠ 0) ∨ y.book.caseMarriage ≠ none) :
    u.judgeCase y = u.partsDone := by
  unfold State.judgeCase
  by_cases hs : y.book.anonymous = true ∨ y.book.verdict = .reject
  · rw [if_pos hs]
  · rw [if_neg hs, if_pos (Option.isSome_iff_ne_none.mpr (h.resolve_left fun h => hs (passed_of_not_sound h)))]

theorem judgeCase_of_asks (hs : y.book.verdict = .good ∧ y.book.tag ≠ 0) (hc : y.book.caseMarriage = none) :
    u.judgeCase y = u.waitOrMatch y.book := by
  unfold State.judgeCase
  rw [if_neg (sound_of_good hs), if_neg (by rw [hc]; decide)]

theorem judgeJacket_of_passed (h : ¬ (y.book.verdict = .good ∧ y.book.tag ≠ 0) ∨ y.book.jacketMarriage ≠ none) :
    u.judgeJacket y = u.partsDone := by
  unfold State.judgeJacket
  by_cases hs : y.book.anonymous = true ∨ y.book.verdict = .reject
  · rw [if_pos hs]
  · rw [if_neg hs, if_pos (Option.isSome_iff_ne_none.mpr (h.resolve_left fun h => hs (passed_of_not_sound h)))]

section
variable (hs : y.book.verdict = .good ∧ y.book.tag ≠ 0) (hj : y.book.jacketMarriage = none)
include hs hj

theorem judgeJacket_of_no_case (hc : y.book.caseMarriage = none) : u.judgeJacket y =
    ((u.markAtWork .noCase).log .noCase y.book.tag .none).partsDone := by
  unfold State.judgeJacket
  rw [if_neg (sound_of_good hs), if_neg (by rw [hj]; decide), if_pos (by rw [hc]; rfl)]

theorem judgeJacket_of_not_pressed (hc : y.book.caseMarriage ≠ none) (hp : y.book.pressed = false) : u.judgeJacket y =
    ((u.markAtWork .underpressed).log .underpressed y.book.tag (.value y.book.heatDone)).partsDone := by
  unfold State.judgeJacket
  rw [if_neg (sound_of_good hs), if_neg (by rw [hj]; decide), if_neg (mt Option.isNone_iff_eq_none.mp hc),
    if_pos (by rw [hp]; decide)]

theorem judgeJacket_of_asks (hc : y.book.caseMarriage ≠ none) (hp : y.book.pressed = true) :
    u.judgeJacket y = u.waitOrMatch y.book := by
  unfold State.judgeJacket
  rw [if_neg (sound_of_good hs), if_neg (by rw [hj]; decide), if_neg (mt Option.isNone_iff_eq_none.mp hc),
    if_neg (by rw [hp]; decide)]

end

end

/-- Settles O47: by the role and what the record asks for. -/
theorem workEdgeMatchesTheRecord : Obligations.WorkEdgeMatchesTheRecord := by
  intro s z hz hrole
  obtain ⟨-, hcaseWork, -, hjacketWork, -⟩ := beginWork_of_role (workBegins_atWork hz)
  refine ⟨_, workEdge_of_goes hz, ?_⟩
  rcases hrole with hrole | hrole
  · have hnot : s.role ≠ some .jacket := by
      rw [hrole]
      decide
    rw [hcaseWork hrole]
    refine ⟨fun hpass => ?_, fun _ hj => absurd hj hnot, fun hasks hbusy => ?_, fun hasks hfree => ?_⟩
    · have hpass' : ¬ ((atWorkNow s z).book.verdict = .good ∧ (atWorkNow s z).book.tag ≠ 0) ∨
          (atWorkNow s z).book.caseMarriage ≠ none :=
        hpass.imp id fun h => h.elim (fun h => h.2) fun h => absurd h.1 hnot
      rw [judgeCase_of_passed hpass']
      exact partsEnd_partsDone _
    · obtain ⟨hsound, hcase, -⟩ := hasks
      rw [judgeCase_of_asks hsound (hcase hrole)]
      exact waitOrMatch_of_busy _ hbusy
    · obtain ⟨hsound, hcase, -⟩ := hasks
      rw [judgeCase_of_asks hsound (hcase hrole), waitOrMatch_of_free _ (by exact hfree)]
      exact matched_match? _ _
  · have hnot : s.role ≠ some .case := by
      rw [hrole]
      decide
    rw [hjacketWork hrole]
    refine ⟨fun hpass => ?_, fun hsound _ hj => ⟨fun hc => ?_, fun hc hp => ?_⟩, fun hasks hbusy => ?_,
      fun hasks hfree => ?_⟩
    · have hpass' : ¬ ((atWorkNow s z).book.verdict = .good ∧ (atWorkNow s z).book.tag ≠ 0) ∨
          (atWorkNow s z).book.jacketMarriage ≠ none :=
        hpass.imp id fun h => h.elim (fun h => absurd h.1 hnot) fun h => h.2
      rw [judgeJacket_of_passed hpass']
      exact partsEnd_partsDone _
    · rw [judgeJacket_of_no_case hsound hj hc]
      exact partsEnd_markAtWork .noCase { workBegins s z (atWorkNow s z) with
        port := (workBegins s z (atWorkNow s z)).port.append .noCase (atWorkNow s z).book.tag .none }
    · rw [judgeJacket_of_not_pressed hsound hj hc hp]
      exact partsEnd_markAtWork .underpressed { workBegins s z (atWorkNow s z) with
        port := (workBegins s z (atWorkNow s z)).port.append .underpressed (atWorkNow s z).book.tag
          (.value (atWorkNow s z).book.heatDone) }
    · obtain ⟨hsound, -, hjacket⟩ := hasks
      obtain ⟨hj, hc, hp⟩ := hjacket hrole
      rw [judgeJacket_of_asks hsound hj hc hp]
      exact waitOrMatch_of_busy _ hbusy
    · obtain ⟨hsound, -, hjacket⟩ := hasks
      obtain ⟨hj, hc, hp⟩ := hjacket hrole
      rw [judgeJacket_of_asks hsound hj hc hp, waitOrMatch_of_free _ (by exact hfree)]
      exact matched_match? _ _

end Sys2Proof.Machine

namespace Sys2Proof.Machine

/-! ### The press at the work edge (O46) -/

section
variable {u : State} {y : ZoneRecord}

theorem judgePress_of_passed (h : y.book.verdict = .reject ∨ y.book.tag = 0 ∨ y.book.pressed = true) :
    u.judgePress y = u.passPress := by
  unfold State.judgePress
  dsimp only
  by_cases hs : y.book.anonymous = true ∨ y.book.verdict = .reject
  · rw [if_pos hs]
  · have hp : y.book.pressed = true := by
      rcases h with h | h | h
      · exact absurd (.inr h) hs
      · exact absurd (.inl ((anonymous_iff _).mpr h)) hs
      · exact h
    rw [if_neg hs, if_pos hp]

section
variable (hs : y.book.verdict = .good ∧ y.book.tag ≠ 0) (hp : y.book.pressed = false)
include hs hp

theorem judgePress_of_no_case (hc : y.book.caseMarriage = none) : u.judgePress y =
    ((u.markAtWork .noCase).log .noCase y.book.tag .none).passPress := by
  unfold State.judgePress
  dsimp only
  rw [if_neg (sound_of_good hs), if_neg (by rw [hp]; decide), if_pos (by rw [hc]; rfl)]

theorem judgePress_of_taken (hc : y.book.caseMarriage ≠ none) {f : FormatIx} (hf : y.book.format = some f) :
    u.judgePress y = u.takeBook y.book f := by
  unfold State.judgePress
  dsimp only
  rw [if_neg (sound_of_good hs), if_neg (by rw [hp]; decide), if_neg (mt Option.isNone_iff_eq_none.mp hc), hf]

end

/-- The work of a record that is marked and journalled is done. -/
theorem passPress_of_marked (k : MarkKind) (j : JournalKind) (tag : W16) (u : State) :
    ((u.markAtWork k).log j tag .none).passPress = State.judgeKeepwarm
      { u.onAtWork (fun y => workDone (y.onBook (BookRecord.addMark k u.own))) with
        port := u.port.append j tag .none } := by
  have hfused : (u.markAtWork k).markWorked = u.onAtWork fun y => workDone (y.onBook (BookRecord.addMark k u.own)) := by
    unfold State.markWorked State.markAtWork
    rw [onAtWork_onAtWork]
    · rfl
    · exact fun _ => rfl
  rw [← hfused]
  rfl

/-- The book as the press takes it (R150, R158). -/
def State.pressTakes (u : State) (b : BookRecord) (f : FormatIx) : PressBook :=
  ⟨min ((u.params.formats[f]).heat.toNat - b.heatDone) u.maxHeat, 0, false, false, false⟩

/-- A book that takes over a keep-warm burst heats at once, without preheat (R144, R158). -/
theorem takeBook_of_burst (b : BookRecord) (f : FormatIx) (hc : u.heat.claim = .holding) (huse : u.heat.use = .keepwarm)
    (hburst : u.heat.burst ≠ none) : u.takeBook b f =
      { u.onAtWork (ZoneRecord.onBook fun b => { b with openTime := none }) with
        heat := { u.heat with use := .book, burst := none, warmLeft := none, due := false }
        work := { u.work with
          press := .heat, book := u.pressTakes b f, heat := some ⟨0, (u.pressTakes b f).allowance, 0⟩ } } := by
  unfold State.takeBook
  exact if_pos ⟨hc, huse, Option.isSome_iff_ne_none.mpr hburst⟩

/-- The station whose book waits for a share. -/
def State.bookWaits (u : State) (b : BookRecord) (f : FormatIx) : State :=
  { u with work := { u.work with press := .waitShare, book := u.pressTakes b f } }

theorem takeBook_of_no_burst (b : BookRecord) (f : FormatIx)
    (h : ¬ (u.heat.claim = .holding ∧ u.heat.use = .keepwarm ∧ u.heat.burst ≠ none)) :
    u.takeBook b f = (u.bookWaits b f).askBook := by
  unfold State.takeBook
  refine if_neg fun hw => h ?_
  rw [Option.isSome_iff_ne_none] at hw
  exact hw

/-- A keep-warm claim queued or waiting is taken over (R144). -/
theorem askBook_of_keepwarm (h : u.heat.claim = .queued ∨ u.heat.claim = .waiting) (huse : u.heat.use = .keepwarm) :
    u.askBook = { u with heat.use := .book } := if_pos ⟨h, huse⟩

end

/-- The station whose new record at work waits for a share. -/
def State.waitsAtWork (s : State) (z : ZoneRecord) (f : FormatIx) : State :=
  (workBegins s z (atWorkNow s z)).bookWaits (atWorkNow s z).book f

/-- Settles O46: by the record, and by the claim a book to be pressed finds. -/
theorem workEdgeBeginsPressWork : Obligations.WorkEdgeBeginsPressWork := by
  intro s z hz hrole
  obtain ⟨-, -, hwork, -⟩ := beginWork_of_role (workBegins_atWork hz)
  have hedge := workEdge_of_goes hz
  obtain ⟨hrun, -⟩ := id hz
  rw [hwork hrole] at hedge
  refine ⟨fun hpass => ?_, fun hv htag hp hc => ?_, fun f hv htag hp hc hf => ?_⟩
  · rw [hedge, judgePress_of_passed hpass, State.passPress, State.markWorked, onAtWork_workBegins hz]
    exact ⟨_, rfl, warmthAsked_judgeKeepwarm _⟩
  · rw [hedge, judgePress_of_no_case ⟨hv, htag⟩ hp hc, passPress_of_marked, onAtWork_workBegins hz]
    exact ⟨_, rfl, warmthAsked_judgeKeepwarm _⟩
  · rw [hedge, judgePress_of_taken ⟨hv, htag⟩ hp hc hf]
    have hasks (h : ¬ (s.heat.claim = .holding ∧ s.heat.use = .keepwarm ∧ s.heat.burst ≠ none)) :
        State.takeBook (atWorkNow s z).book f (workBegins s z (atWorkNow s z)) =
          (s.waitsAtWork z f).askBook :=
      takeBook_of_no_burst (u := workBegins s z (atWorkNow s z)) _ f h
    refine ⟨fun hclaim huse hburst => ?_, fun hclaim huse => ?_, fun hclaim hoff hq => ?_, fun hbusy => ?_⟩
    · rw [takeBook_of_burst (u := workBegins s z (atWorkNow s z)) _ f hclaim huse hburst, onAtWork_workBegins hz]
      rfl
    · have hnot : ¬ (s.heat.claim = .holding ∧ s.heat.use = .keepwarm ∧ s.heat.burst ≠ none) := by
        rintro ⟨h, -⟩
        rw [h] at hclaim
        rcases hclaim with h | h <;> cases h
      rw [hasks hnot, askBook_of_keepwarm (u := s.waitsAtWork z f) hclaim huse]
      rfl
    · rw [hasks fun h => absurd (hclaim.symm.trans h.1) nofun,
        askBook_of_free (u := s.waitsAtWork z f) hrun hclaim hoff hq]
      rfl
    · have hnot : ¬ (s.heat.claim = .holding ∧ s.heat.use = .keepwarm ∧ s.heat.burst ≠ none) := by
        rintro ⟨hh, -, hburst⟩
        rcases hbusy with h | ⟨h, -⟩ | ⟨-, -, h⟩
        · exact absurd (hh.symm.trans h) nofun
        · exact absurd (hh.symm.trans h) nofun
        · exact hburst h
      have hidle : ¬ (s.heat.claim = .queued ∨ s.heat.claim = .waiting) := by
        rcases hbusy with h | ⟨h, -⟩ | ⟨h, -⟩ <;> rw [h] <;> decide
      have hmay : ¬ (s.heat.claim = .none ∧ s.heat.holdOff = none) := by
        rintro ⟨hn, hoff⟩
        rcases hbusy with h | ⟨-, h⟩ | ⟨h, -⟩
        · exact absurd (hn.symm.trans h) nofun
        · exact h hoff
        · exact absurd (hn.symm.trans h) nofun
      rw [hasks hnot, askBook_of_pending (u := s.waitsAtWork z f) hidle hmay]
      rfl

end Sys2Proof.Machine

namespace Sys2Proof.Machine

/-! ### INFEED and GATE at the work edge (O45) -/

section
variable {u : State} {y : ZoneRecord}

theorem judgeInfeed_of_window (h : y.book.tag ≠ 0) (hslot : u.rd.slot = none) :
    u.judgeInfeed y = { u with rd.window := some u.readWindowMs } := by
  unfold State.judgeInfeed
  rw [if_neg (mt (anonymous_iff _).mp h), hslot]

theorem judgeInfeed_of_slot (h : y.book.tag ≠ 0) {i : PartId} (hslot : u.rd.slot = some i) :
    u.judgeInfeed y = State.takeId i { u with rd.slot := none } := by
  unfold State.judgeInfeed
  rw [if_neg (mt (anonymous_iff _).mp h), hslot]

theorem judgeInfeed_of_unknown (h : y.book.tag = 0) (hslot : u.rd.slot = none) : u.judgeInfeed y = u.markWorked := by
  unfold State.judgeInfeed
  rw [if_pos ((anonymous_iff _).mpr h), hslot]

theorem judgeInfeed_of_discarded (h : y.book.tag = 0) {i : PartId} (hslot : u.rd.slot = some i) :
    u.judgeInfeed y = { u.markWorked with
      rd.slot := none, port := u.port.append .idDiscarded 0 (.value i.key.toNat) } := by
  unfold State.judgeInfeed
  rw [if_pos ((anonymous_iff _).mpr h), hslot]
  rfl

theorem jacketUpstream_iff (u : State) : u.jacketUpstream = true ↔ ∃ p : Pos, p < u.own ∧
    (u.mem.members[p]).role = some .jacket ∧ (u.mem.members[p]).status ≠ .unknown := by
  unfold State.jacketUpstream
  simp only [List.any_eq_true, List.mem_finRange, true_and, Bool.and_eq_true, decide_eq_true_eq, beq_iff_eq, bne_iff_ne,
    and_assoc]

theorem incomplete_iff (u : State) (b : BookRecord) : u.incomplete b = true ↔ b.caseMarriage = none ∨ b.pressed = false ∨
    (b.jacketMarriage = none ∧ ∃ p : Pos, p < u.own ∧ (u.mem.members[p]).role = some .jacket ∧
      (u.mem.members[p]).status ≠ .unknown) := by
  unfold State.incomplete
  simp only [Bool.or_eq_true, Bool.and_eq_true, Bool.not_eq_true', Option.isNone_iff_eq_none, jacketUpstream_iff, or_assoc]

theorem judgeGate_of_rejected (h : y.book.tag = 0 ∨ y.book.verdict = .reject) : u.judgeGate y = u.beginDivert :=
  if_pos (h.imp (anonymous_iff _).mpr id)

section
variable (hs : y.book.verdict = .good ∧ y.book.tag ≠ 0)
include hs

theorem judgeGate_of_incomplete (h : u.incomplete y.book = true) : u.judgeGate y =
    ((u.markAtWork .incomplete).log .incomplete y.book.tag .none).beginDivert := by
  unfold State.judgeGate
  rw [if_neg (sound_of_good hs), if_pos h]

theorem judgeGate_of_complete (h : ¬ u.incomplete y.book = true) : u.judgeGate y =
    { u.markWorked with port.passed := u.port.passed + 1 } := by
  unfold State.judgeGate
  rw [if_neg (sound_of_good hs), if_neg h]

end

theorem judgeThresholds_latch_of_set {k : Fin 17} (h : u.port.latches[k] = true) :
    u.judgeThresholds.port.latches[k] = true := by
  unfold State.judgeThresholds
  dsimp only
  split_ifs
  · exact setLatch_of_set _ (setLatch_of_set _ h)
  · exact setLatch_of_set _ h
  · exact setLatch_of_set _ h
  · exact h

/-- What `t` keeps of `u`: the lists of records, the queue, the latches set, and the newest entry of the journal. -/
def State.keepsShown (u t : State) : Prop :=
  t.zt = u.zt ∧ t.bus = u.bus ∧ (∀ k : Fin 17, u.port.latches[k] = true → t.port.latches[k] = true) ∧
    ∀ e, u.port.journal.getLast? = some e → e ∈ t.port.journal

theorem keepsShown_self (u : State) : u.keepsShown u := ⟨rfl, rfl, fun _ h => h, fun _ h => List.mem_of_getLast? h⟩

theorem startSkip_keepsShown (owned : Bool) (u : State) : u.keepsShown (u.startSkip owned) := by
  cases hm : u.parts.magazine with
  | nil =>
    have hnone : u.startSkip owned = u := by
      unfold State.startSkip
      rw [hm]
    rw [hnone]
    exact keepsShown_self u
  | cons e rest =>
    rw [startSkip_eq hm]
    refine ⟨rfl, rfl, fun k h => append_latch_of_set _ _ _ ?_, fun e h => mem_append_of_newest _ _ _ ?_⟩
    · exact judgeThresholds_latch_of_set (u := { u with parts.magazine := rest }) h
    · rw [judgeThresholds_journal]
      exact h

theorem judgeHousekeeping_keepsShown (u : State) : u.keepsShown u.judgeHousekeeping := by
  unfold State.judgeHousekeeping
  split
  · exact startSkip_keepsShown false u
  · exact keepsShown_self u

/-- The state in which the work on an unknown record ends: at GATE it stays at work, elsewhere it is done. -/
def State.unknownWorked (u : State) : State := if u.role = some .gate then u else u.markWorked

theorem unknownWorked_of_other (h : u.role ≠ some .gate) : u.unknownWorked = u.markWorked := if_neg h

/-- The work that begins on an unknown record (R68). -/
theorem beginWork_of_unknown (hy : u.atWork? = some y) (htag : y.book.tag = 0) (hr : u.role ≠ none) :
    (u.role ≠ some .press → u.unknownWorked.keepsShown u.beginWork) ∧
    (u.role = some .press → u.beginWork = u.markWorked.judgeKeepwarm) := by
  obtain ⟨hinfeed, hcase, hpress, hjacket, hgate⟩ := beginWork_of_role hy
  have hpassed : ¬ (y.book.verdict = .good ∧ y.book.tag ≠ 0) := fun h => h.2 htag
  obtain ⟨r, hrole⟩ := Option.ne_none_iff_exists'.mp hr
  refine ⟨fun hnot => ?_, fun hp => ?_⟩
  · cases r with
    | infeed =>
      rw [hinfeed hrole, unknownWorked_of_other (by rw [hrole]; decide)]
      cases hslot : u.rd.slot with
      | none =>
        rw [judgeInfeed_of_unknown htag hslot]
        exact keepsShown_self _
      | some i =>
        rw [judgeInfeed_of_discarded htag hslot]
        exact ⟨rfl, rfl, fun k h => append_latch_of_set _ _ _ h, fun e h => mem_append_of_newest _ _ _ h⟩
    | case =>
      rw [hcase hrole, judgeCase_of_passed (.inl hpassed), unknownWorked_of_other (by rw [hrole]; decide)]
      exact judgeHousekeeping_keepsShown { u.markWorked with work.parts := .idle, work.matchIndex := none }
    | press => exact absurd hrole hnot
    | jacket =>
      rw [hjacket hrole, judgeJacket_of_passed (.inl hpassed), unknownWorked_of_other (by rw [hrole]; decide)]
      exact judgeHousekeeping_keepsShown { u.markWorked with work.parts := .idle, work.matchIndex := none }
    | gate =>
      rw [hgate hrole, judgeGate_of_rejected (.inl htag), State.unknownWorked, if_pos hrole]
      exact keepsShown_self u
  · rw [hpress hp, judgePress_of_passed (.inr (.inl htag))]
    rfl

end

/-! An item that the work eye sees with no record ENTERING (R68). -/

section
variable {s : State}

/-- The unknown record that is created AT_WORK. -/
def State.unknownRecord (s : State) : ZoneRecord :=
  ⟨(BookRecord.created 0).addMark .unknown s.own, .atWork, none, false, false, 0⟩

/-- The station once the unknown record stands in the zone list, before its room is judged. -/
def State.unknownArrived (s : State) : State := { s with
  zt.eyes.work := true, zt.zone := s.zt.zone ++ [s.unknownRecord]
  port := (s.port.setLatch .arrivalUnknown).append .arrivalUnknown 0 .none }

section
variable (hnone : s.atWork? = none) (hentering : ∀ z ∈ s.zt.zone, z.phase ≠ .entering)
include hnone hentering

theorem workLeading_of_unexpected : s.workLeading = State.unexpected { s with zt.eyes.work := true } := by
  have hfind : s.zt.zone.find? ZoneRecord.isEntering = none :=
    List.find?_eq_none.mpr fun z hz => by simpa [ZoneRecord.isEntering] using hentering z hz
  unfold State.workLeading
  rw [hnone, hfind]
  rfl

theorem workLeading_of_full (h : 8 ≤ s.zt.zone.length) : s.workLeading = { s with
    zt.eyes.work := true, port := (s.port.append .zoneOverrun 0 .none).setLatch .recordDropped } :=
  (workLeading_of_unexpected hnone hentering).trans
    (if_pos ((zoneFull_iff { s with zt.eyes.work := true }).mpr h))

theorem workLeading_of_room (h : s.zt.zone.length < 8) :
    s.workLeading = s.unknownArrived.judgeRoom.andThen State.beginWork :=
  (workLeading_of_unexpected hnone hentering).trans
    (if_neg (mt (zoneFull_iff { s with zt.eyes.work := true }).mp (Nat.not_le.mpr h)))

end

theorem mapFirst_append_of_none {α : Type} {p : α → Bool} {l : List α} (h : l.find? p = none) (f : α → α) {y : α}
    (hy : p y = true) : mapFirst p f (l ++ [y]) = l ++ [f y] := by
  induction l with
  | nil => simp only [List.nil_append, mapFirst, hy, if_true]
  | cons x xs ih =>
    obtain ⟨hx, hxs⟩ := List.find?_eq_none.mp h |> List.forall_mem_cons.mp
    simp only [List.cons_append, mapFirst, hx, if_false, Bool.false_eq_true]
    rw [ih (List.find?_eq_none.mpr hxs)]

/-- The room stays as it was judged when work is done. -/
theorem roomFollows_markWorked {sent : List TxEntry} {u : State} (h : roomFollows sent s u) :
    roomFollows sent s u.markWorked := by
  have hlength : u.markWorked.zt.zone.length = u.zt.zone.length := mapFirst_length _ _ _
  unfold roomFollows
  rw [hlength]
  exact h

theorem roomFollows_unknownWorked {sent : List TxEntry} {u : State} (h : roomFollows sent s u) :
    roomFollows sent s u.unknownWorked := by
  unfold State.unknownWorked
  split
  · exact h
  · exact roomFollows_markWorked h

/-- The record that an item without one gets, as its work leaves it. -/
theorem unknownWorked_zone {u : State} (hnone : s.atWork? = none) (hzone : u.zt.zone = s.zt.zone ++ [s.unknownRecord])
    (hrole : u.role = s.role) : u.unknownWorked.zt.zone = s.zt.zone ++ [⟨⟨0, none, none, none, none, none, 0, false,
      none, none, .reject, [⟨.unknown, s.own⟩]⟩, if s.role = some .gate then .atWork else .worked, none, false, false,
      0⟩] := by
  unfold State.unknownWorked
  rw [hrole]
  by_cases h : s.role = some .gate
  · rw [if_pos h, if_pos h, hzone]
    rfl
  · rw [if_neg h, if_neg h]
    refine Eq.trans ?_ (mapFirst_append_of_none hnone (fun z => { z with phase := .worked }) (y := s.unknownRecord) rfl)
    rw [← hzone]
    rfl

/-- An item at the work eye with no record ENTERING and none AT_WORK (R68). -/
theorem unexpected_spec (hrun : s.mem.station = .running) (hnone : s.atWork? = none) (hr : s.role ≠ none)
    (hq : s.bus.txq.length ≤ 14) : ∃ v t,
    s.unknownArrived.judgeRoom.andThen State.beginWork = t ∧ roomFollows [] s v ∧ v.zt = t.zt ∧
    v.zt.zone = s.zt.zone ++ [⟨⟨0, none, none, none, none, none, 0, false, none, none, .reject,
      [⟨.unknown, s.own⟩]⟩, if s.role = some .gate then .atWork else .worked, none, false, false, 0⟩] ∧
    t.port.latches[(0 : Fin 17)] = true ∧ ⟨.arrivalUnknown, 0, .none, s.port.stamp⟩ ∈ t.port.journal ∧
    (s.role = some .press → warmthAsked v t) ∧ (s.role ≠ some .press → v.bus = t.bus) := by
  obtain ⟨hfollows, hframe⟩ := judgeRoom_spec (s := s) (u := s.unknownArrived) ⟨rfl, rfl, rfl, rfl, rfl, rfl⟩ (.inr hrun)
    (Nat.lt_of_le_of_lt hq (by decide))
  have hrole : s.unknownArrived.judgeRoom.role = s.role := by
    rw [hframe]
    rfl
  have hzone : s.unknownArrived.judgeRoom.zt.zone = s.zt.zone ++ [s.unknownRecord] := by
    rw [hframe]
    rfl
  have hport : s.unknownArrived.judgeRoom.port = s.unknownArrived.port := by rw [hframe]
  have hwork : s.unknownArrived.judgeRoom.atWork? = some s.unknownRecord := by
    unfold State.atWork?
    rw [hzone, List.find?_append, show s.zt.zone.find? (fun z => z.phase == .atWork) = none from hnone]
    rfl
  have hlatch : s.unknownArrived.judgeRoom.port.latches[(0 : Fin 17)] = true := by
    rw [hport]
    exact append_latch_of_set _ _ _ (by simp [PortUnit.setLatch, Latch.index])
  have hnewest : s.unknownArrived.judgeRoom.port.journal.getLast? = some ⟨.arrivalUnknown, 0, .none, s.port.stamp⟩ := by
    rw [hport]
    exact append_journal_getLast? _ _ _ _
  have hroom : s.unknownArrived.judgeRoom.bus.txq.length < Config.txqCap := by
    obtain ⟨-, hbus, -⟩ := hfollows
    rw [hbus]
    show (s.bus.txq ++ [] ++ _).length < 16
    rw [List.append_nil, List.length_append]
    split
    · rw [List.length_singleton]; omega
    · rw [List.length_nil]; omega
  have hbegins : s.unknownArrived.judgeRoom.andThen State.beginWork = s.unknownArrived.judgeRoom.beginWork :=
    andThen_of_active _ (by rw [hframe]; exact .inr hrun)
  obtain ⟨hother, hpress⟩ := beginWork_of_unknown hwork rfl (by rw [hrole]; exact hr)
  rw [hrole] at hother hpress
  have hportWorked : s.unknownArrived.judgeRoom.unknownWorked.port = s.unknownArrived.judgeRoom.port := by
    unfold State.unknownWorked
    split <;> rfl
  rw [hbegins]
  refine ⟨s.unknownArrived.judgeRoom.unknownWorked, _, rfl, roomFollows_unknownWorked hfollows, ?_⟩
  by_cases hp : s.role = some .press
  · have hworked := unknownWorked_of_other (u := s.unknownArrived.judgeRoom) (by rw [hrole, hp]; decide)
    have hwarm := warmthAsked_judgeKeepwarm s.unknownArrived.judgeRoom.markWorked
    obtain ⟨q, c, w, hkeep⟩ := judgeKeepwarm_of_room (s := s.unknownArrived.judgeRoom.markWorked) hroom
    have hsame := unknownWorked_zone hnone hzone hrole
    rw [hworked] at hsame ⊢
    rw [hpress hp]
    refine ⟨by rw [hkeep], hsame, ?_, ?_, fun _ => hwarm, fun h => absurd hp h⟩
    · rw [hkeep]
      exact hlatch
    · rw [hkeep]
      exact List.mem_of_getLast? hnewest
  · obtain ⟨hzt, hbus, hlatches, hjournal⟩ := hother hp
    refine ⟨hzt.symm, unknownWorked_zone hnone hzone hrole, hlatches _ ?_, hjournal _ ?_, fun h => absurd h hp,
      fun _ => hbus.symm⟩
    · rw [hportWorked]
      exact hlatch
    · rw [hportWorked]
      exact hnewest

end

/-- Settles O45: by the records at the work eye, and at INFEED and GATE by the record that goes to work. -/
theorem workEdgeBeginsInfeedAndGateWork : Obligations.WorkEdgeBeginsInfeedAndGateWork := by
  refine fun s => ⟨fun hrun => ?_, fun hrun hbusy => ?_, fun hrun hnone hentering => ⟨fun hfull => ?_,
    fun hroom hq hr => ?_⟩, fun z hz => ⟨fun hr => ?_, fun hr => ?_⟩⟩
  · exact congrArg Host.Outcome.next (onEdge_opposite _ _ hrun)
  · rw [workEdge_of_running hrun]
    exact congrArg _ (if_pos (Option.isSome_iff_ne_none.mpr hbusy))
  · rw [workEdge_of_running hrun, workLeading_of_full hnone hentering hfull]
  · obtain ⟨v, t, ht, hfollows, hzt, hzone, hlatch, hjournal, hpress, hother⟩ := unexpected_spec hrun hnone hr hq
    obtain ⟨hopen, -⟩ := id hfollows
    rw [workEdge_of_running hrun, workLeading_of_room hnone hentering hroom, ht]
    rw [hzt] at hopen hzone
    exact ⟨t, rfl, hlatch, hopen, hzone, hjournal, v, hfollows, hzt, hpress, hother⟩
  · obtain ⟨hinfeed, -⟩ := beginWork_of_role (workBegins_atWork hz)
    rw [workEdge_of_goes hz, hinfeed hr]
    refine ⟨fun htag hslot => ?_, fun i htag hslot => ?_, fun htag hslot => ?_, fun i htag hslot => ?_⟩
    · rw [judgeInfeed_of_window (u := workBegins s z (atWorkNow s z)) htag hslot]
      rfl
    · rw [judgeInfeed_of_slot (u := workBegins s z (atWorkNow s z)) htag hslot, takeId_eq]
      exact congrArg (fun u : State => Host.Outcome.next { u with rd.slot := none }) (onAtWork_workBegins hz _)
    · rw [judgeInfeed_of_unknown (u := workBegins s z (atWorkNow s z)) htag hslot, State.markWorked, onAtWork_workBegins hz]
      rfl
    · rw [judgeInfeed_of_discarded (u := workBegins s z (atWorkNow s z)) htag hslot, State.markWorked,
        onAtWork_workBegins hz]
      rfl
  · obtain ⟨-, -, -, -, hgate⟩ := beginWork_of_role (workBegins_atWork hz)
    have hlacks := incomplete_iff (workBegins s z (atWorkNow s z)) (atWorkNow s z).book
    rw [workEdge_of_goes hz, hgate hr]
    refine ⟨fun hrej => ?_, fun htag hv h => ?_, fun htag hv h => ?_⟩
    · rw [judgeGate_of_rejected hrej]
      rfl
    · rw [judgeGate_of_incomplete ⟨hv, htag⟩ (hlacks.mpr h), State.markAtWork, onAtWork_workBegins hz]
      rfl
    · rw [judgeGate_of_complete ⟨hv, htag⟩ (mt hlacks.mp h), State.markWorked, onAtWork_workBegins hz]
      rfl

end Sys2Proof.Machine
